-- ==== Sys2Proof/Word.lean ====
section
/-! DEFINITION. The word and byte types of KSFC (00_scope.md R6 WORD = 32, R10; 42_feistel.md R158): unsigned bit
vectors. `+` on `Word` is addition modulo 2^32 and `^^^` is bitwise exclusive or (00_scope.md R11). -/

namespace Sys2Proof

/-- A P-table word, an S-box word, a block half or a register (00_scope.md R6: WORD = 32). -/
abbrev Word := BitVec 32

/-- A key byte, an S-box index or the KEYLEN register (10_state.md R23, R27). -/
abbrev Byte := BitVec 8

end Sys2Proof
end

