-- ==== Sys2Proof/Machine/Window.lean ====
section
/-! DEFINITION. The register window: its registers and offsets (20_memory.md R50, R54, R55), and the Host's
accesses (00_scope.md R12 BusRead and BusWrite). -/

namespace Sys2Proof.Machine

/-- A byte offset inside the 128-byte register window (20_memory.md R50). -/
abbrev Offset := BitVec 7

/-- The named registers of the window (20_memory.md R54). -/
inductive Reg where
  | cmd
  | status
  | keylen
  | dl
  | dr
  | key (j : Fin 14)
deriving DecidableEq, Repr

/-- off(REG): the register's offset (20_memory.md R54). -/
def Reg.offset : Reg → Offset
  | .cmd => 0x00
  | .status => 0x04
  | .keylen => 0x08
  | .dl => 0x10
  | .dr => 0x14
  | .key j => BitVec.ofNat 7 (0x20 + 4 * j.val)

/-- The register at a word offset; `none` at the reserved offsets (20_memory.md R54, R55). -/
def regAt (off : Offset) : Option Reg :=
  if off = 0x00 then some .cmd
  else if off = 0x04 then some .status
  else if off = 0x08 then some .keylen
  else if off = 0x10 then some .dl
  else if off = 0x14 then some .dr
  else if h : 0x20 ≤ off.toNat ∧ off.toNat ≤ 0x54 ∧ off.toNat % 4 = 0 then
    some (.key ⟨(off.toNat - 0x20) / 4, by omega⟩)
  else none

/-- One Host access: `bytes` bytes at a byte offset inside the window (00_scope.md R12). The datum of a write is the
32-bit write bus; only 4-byte accesses are legal (20_memory.md R53). -/
inductive Access where
  /-- BusRead(off, n). -/
  | read (off : Offset) (bytes : Nat)
  /-- BusWrite(off, n, v). -/
  | write (off : Offset) (bytes : Nat) (v : Word)
deriving DecidableEq, Repr

/-- The offset of an access. -/
def Access.off : Access → Offset
  | .read off _ => off
  | .write off _ _ => off

/-- The width of an access in bytes. -/
def Access.bytes : Access → Nat
  | .read _ n => n
  | .write _ n _ => n

/-- A legal access is "a full 32-bit word at an offset that is a multiple of 4" (20_memory.md R53). -/
def Access.legal (a : Access) : Bool :=
  a.bytes == 4 && a.off.toNat % 4 == 0

/-- The offset inside a window at `base` of a host address; `none` outside the window, where an access "is not a KSFC
event" (20_memory.md R50). Log 10. -/
def windowOffset (base addr : Nat) : Option Offset :=
  if base ≤ addr ∧ addr < base + 128 then some (BitVec.ofNat 7 (addr - base)) else none

end Sys2Proof.Machine
end

