-- ==== Sys2Proof/Syntax.lean ====
section
/-! DEFINITION. The instructions of KSFC: the command words of 30_encoding.md R81, one constructor per row of
spec/opcode_table.json. No command carries an operand field (R84), so no constructor has an argument. -/

namespace Sys2Proof

/-- The whole instruction set (30_encoding.md R81). -/
inductive Instr where
  /-- NOP (40_command_interface.md R101). -/
  | nop
  /-- INIT, key-schedule construction (41_keyschedule.md R120). -/
  | init
  /-- ENCRYPT, the block DL:DR in place (42_feistel.md R150). -/
  | encrypt
  /-- DECRYPT, the block DL:DR in place (42_feistel.md R153). -/
  | decrypt
deriving DecidableEq, Repr

end Sys2Proof
end

