-- ==== Sys2Proof/WellFormed.lean ====
section
/-! DEFINITION. What is well formed: an instruction (no field to check, 30_encoding.md R84) and a Host access
(20_memory.md R50, R53). -/

namespace Sys2Proof

/-- Every instruction is well formed: no command word carries an operand (30_encoding.md R84). -/
def Instr.wf : Instr → Bool
  | .nop => true
  | .init => true
  | .encrypt => true
  | .decrypt => true

/-- A well-formed access is a legal one (20_memory.md R53). -/
def Machine.Access.wf (a : Machine.Access) : Bool := a.legal

/-- A well-formed host access by absolute address: inside the window at `base` and legal there (20_memory.md R50, R53). -/
def Machine.addressWf (base addr bytes : Nat) : Bool :=
  match Machine.windowOffset base addr with
  | some off => (Machine.Access.read off bytes).legal
  | none => false

end Sys2Proof
end

