-- ==== Sys2Proof/Decode.lean ====
section
/-! DEFINITION. Decoding a command word (30_encoding.md R80 to R85) and, after it, the encoder. A command is one 32-bit
word presented on the write bus, so its bits have no byte order of their own (20_memory.md R53). -/

namespace Sys2Proof

/-- Why a command word is RESERVED (30_encoding.md R85). -/
inductive Reserved where
  /-- RSVD, bits 31:4, is not zero. -/
  | rsvdNotZero
  /-- OP is 0x4 to 0xF. -/
  | opReserved
deriving DecidableEq, Repr

/-- The OP field, bits 3:0 (30_encoding.md R80). -/
def opField (w : Word) : BitVec 4 := w.extractLsb' 0 4

/-- The RSVD field, bits 31:4 (30_encoding.md R80). -/
def rsvdField (w : Word) : BitVec 28 := w.extractLsb' 4 28

/-- decode(w) (30_encoding.md R83): total, one result for each word. -/
def decode (w : Word) : Except Reserved Instr :=
  if rsvdField w ≠ 0 then .error .rsvdNotZero
  else if opField w = 0x0 then .ok .nop
  else if opField w = 0x1 then .ok .init
  else if opField w = 0x2 then .ok .encrypt
  else if opField w = 0x3 then .ok .decrypt
  else .error .opReserved

/-- The OP value of an instruction (30_encoding.md R81). -/
def opcode : Instr → BitVec 4
  | .nop => 0x0
  | .init => 0x1
  | .encrypt => 0x2
  | .decrypt => 0x3

/-- The command word of an instruction: RSVD = 0 above OP (30_encoding.md R80, R81). -/
def encode (i : Instr) : Word := (0 : BitVec 28) ++ opcode i

/-- The host's question: the instruction the decoder reads from `nbits` bits of `w`, bit 0 the least significant bit of
the one command word; a number with a bit above bit 31 is no command word (30_encoding.md R80). -/
def decodeTableWord (nbits w : Nat) : Option Instr :=
  if w % 2 ^ nbits < 2 ^ 32 then (decode (BitVec.ofNat 32 (w % 2 ^ nbits))).toOption else none

end Sys2Proof
end

