-- ==== Sys2Proof/Config.lean ====
section
/-! DEFINITION. What an implementation fixes (the parameters of 00_scope.md R7) and the free values of the model.
None has a body, so no proof can see a value. -/

namespace Sys2Proof

/-- RESET_KIND (00_scope.md R7, 70_reset_and_hazards.md R242): how the reset input is driven. The model has one
Reset step however it is driven. -/
structure Config.ResetKind where
  /-- The reset input is active at level 1. -/
  activeHigh : Bool
  /-- The reset input is sampled with the clock. -/
  synchronous : Bool
deriving DecidableEq, Repr, Inhabited

/-- The open parameters of 00_scope.md R7. -/
structure Config.Parameters where
  /-- BASE_ADDR divided by 128: the base is a multiple of 128 (R7). -/
  baseBlock : Nat
  /-- T_INIT, in clock cycles. No rule depends on it (70_reset_and_hazards.md R251). -/
  tInit : Nat
  /-- T_BLOCK, in clock cycles. No rule depends on it (70_reset_and_hazards.md R251). -/
  tBlock : Nat
  /-- RESET_KIND. -/
  resetKind : Config.ResetKind
  /-- BUS_PROTOCOL: the name of the host bus's handshake. -/
  busProtocol : String
deriving DecidableEq, Repr, Inhabited

/-- The parameters of this KSFC: "no rule of this spec gives it a value" (00_scope.md R7). Log 10. -/
opaque Config.parameters : Config.Parameters

/-- BASE_ADDR (00_scope.md R7). -/
def Config.baseAddr : Nat := 128 * Config.parameters.baseBlock

/-- Free 32-bit values, one for each value of the counter `State.draws`: a read of DL or DR while BUSY = 1
(20_memory.md R62) and the Engine's working registers (10_state.md R37). Logs 4 and 5. -/
opaque Config.freeWord : Nat → Word

/-- Free values of the Engine's table index (10_state.md R37), which has no stated width. Log 5. -/
opaque Config.freeIndex : Nat → Nat

end Sys2Proof
end

