-- ==== Sys2Proof/Machine/State.lean ====
section
/-! DEFINITION. The state of KSFC (10_state.md R20), as plain data; its faults and refusals; the events by which its
three agents move (00_scope.md R8); the state after reset (10_state.md R40). -/

namespace Sys2Proof.Machine

/-- Why a run of the model stops with a fault. -/
inductive Fault where
  /-- An access that is not a 4-byte access at a multiple of 4 (20_memory.md R53): the bus error response, raised by any
  Host access, no effect on KSFC. Safe: the model gives no result where a Host could go on. Log 6. -/
  | busError
  /-- A read of a P-table or S-box word that holds no value (00_scope.md R13), raised by the Engine's reads of P and S.
  Safe: no accepted command does it from a state that a run reaches. Log 8. -/
  | noTableValue
  /-- A key byte beyond K[55] (10_state.md R27), raised by the key XOR of an INIT that pends with KEYLEN outside 1..56,
  which no run reaches. Safe. Log 9. -/
  | noKeyByte
deriving DecidableEq, Repr

/-- Why a run of the model is refused. -/
inductive Refusal where
  /-- An instruction without a meaning. Safe. No arm of exec uses it. -/
  | notModelled (mnemonic : String)
  /-- "A Host access that overlaps reset is not defined by this spec, and a model must not give one a result"
  (70_reset_and_hazards.md R242), raised by that event. Safe. Log 7. -/
  | accessOverlapsReset
deriving DecidableEq, Repr

/-- The Engine's pending operation PEND (10_state.md R36). -/
inductive Pend where
  | none
  | init
  | encrypt
  | decrypt
deriving DecidableEq, Repr

/-- The four sticky error flags of STATUS (10_state.md R26; 60_exceptions.md R202). -/
inductive ErrFlag where
  /-- ERR_KEYLEN, bit 8. -/
  | keylen
  /-- ERR_NOINIT, bit 9. -/
  | noinit
  /-- ERR_BUSY, bit 10. -/
  | busy
  /-- ERR_CMD, bit 11. -/
  | cmd
deriving DecidableEq, Repr

/-- The values of the four error flags (10_state.md R26). -/
structure ErrFlags where
  errKeylen : Bool
  errNoinit : Bool
  errBusy : Bool
  errCmd : Bool
deriving DecidableEq, Repr

/-- The P-table and the S-boxes, the source's CipherState (10_state.md R31, R32). A word is `none` while it holds no value,
the spec's `⊥` (00_scope.md R13). -/
structure Tables where
  /-- P[0..17]. -/
  p : Vector (Option Word) 18
  /-- S[0..3][0..255]. -/
  s : Vector (Vector (Option Word) 256) 4
deriving DecidableEq, Repr

/-- The Engine's working registers (10_state.md R37), which nothing outside the Engine's step reads. Log 5. -/
structure EngineRegs where
  /-- AL, the left half of INIT's running block. -/
  al : Word
  /-- AR, the right half of INIT's running block. -/
  ar : Word
  /-- The index of the next table word INIT writes. -/
  index : Nat
  /-- The left half being transformed by ENCRYPT or DECRYPT. -/
  left : Word
  /-- The right half being transformed by ENCRYPT or DECRYPT. -/
  right : Word
deriving DecidableEq, Repr

/-- One move of an agent (00_scope.md R8). -/
inductive Event where
  /-- The Host performs one access (20_memory.md). -/
  | host (a : Access)
  /-- The Engine has its turn (40_command_interface.md R104). -/
  | engine
  /-- Reset (70_reset_and_hazards.md R240). -/
  | reset
  /-- A Host access that overlaps the reset input (70_reset_and_hazards.md R242). -/
  | hostDuringReset (a : Access)
deriving DecidableEq, Repr

/-- What a legal Host access returns to the Host: data for a read, completion for a write (20_memory.md R56 to R65). -/
inductive Response where
  | written
  | data (v : Word)
deriving DecidableEq, Repr

/-- The state of KSFC (10_state.md R20), and three fields of the model's own: `events`, `resp`, `draws`. -/
structure State where
  /-- DL (10_state.md R21). -/
  dl : Word
  /-- DR (10_state.md R22). -/
  dr : Word
  /-- KEYLEN (10_state.md R23). -/
  keylen : Byte
  /-- KEY0 to KEY13 (10_state.md R24). -/
  keys : Vector Word 14
  /-- STATUS.READY (10_state.md R29). -/
  ready : Bool
  /-- The error flags of STATUS (10_state.md R26). -/
  errs : ErrFlags
  /-- PEND (10_state.md R36). STATUS.BUSY is the view `State.busy` of it (R28; Machine/Flags.lean). -/
  pend : Pend
  /-- P and S (10_state.md R31, R32). -/
  tables : Tables
  /-- The Engine's working registers (10_state.md R37). -/
  work : EngineRegs
  /-- What the agents do next, first move first. The model's own: log 1. -/
  events : List Event
  /-- The response to the last legal Host access. The model's own: log 11. -/
  resp : Option Response
  /-- How many free values have been drawn. The model's own: log 4. -/
  draws : Nat
deriving DecidableEq, Repr

/-- Tables in which no word holds a value: P and S after Reset (10_state.md R40). -/
def Tables.undefined : Tables :=
  { p := Vector.replicate 18 none
    s := Vector.replicate 4 (Vector.replicate 256 none) }

/-- The error flags after Reset (10_state.md R40). -/
def ErrFlags.clear : ErrFlags :=
  { errKeylen := false, errNoinit := false, errBusy := false, errCmd := false }

/-- The machine right after Reset (10_state.md R40). The spec gives the Engine's working registers no value: DESIGN
CHOICE zero, log 5. `events`, `resp` and `draws` are the model's own: DESIGN CHOICE, logs 1, 4, 11, 12. -/
def State.reset : State :=
  { dl := 0
    dr := 0
    keylen := 0
    keys := Vector.replicate 14 0
    ready := false
    errs := ErrFlags.clear
    pend := .none
    tables := Tables.undefined
    work := { al := 0, ar := 0, index := 0, left := 0, right := 0 }
    events := []
    resp := none
    draws := 0 }

end Sys2Proof.Machine
end

