-- ==== Sys2Proof/Machine/Flags.lean ====
section
/-! DEFINITION. STATUS (10_state.md R26): setting an error flag (60_exceptions.md R201), clearing flags by writing 1
(20_memory.md R59) and the word a read returns (20_memory.md R58). -/

namespace Sys2Proof.Machine

/-- STATUS.BUSY: 1 exactly when PEND is not none (10_state.md R28). Log 14. -/
def State.busy (s : State) : Bool := s.pend != .none

/-- The flags with one set; "A flag that is already 1 stays 1" (60_exceptions.md R201). -/
def ErrFlags.set (e : ErrFlags) : ErrFlag → ErrFlags
  | .keylen => { e with errKeylen := true }
  | .noinit => { e with errNoinit := true }
  | .busy => { e with errBusy := true }
  | .cmd => { e with errCmd := true }

/-- The value of one flag. -/
def ErrFlags.get (e : ErrFlags) : ErrFlag → Bool
  | .keylen => e.errKeylen
  | .noinit => e.errNoinit
  | .busy => e.errBusy
  | .cmd => e.errCmd

/-- A flag's bit of STATUS, which is its code (60_exceptions.md R202). -/
def ErrFlag.bit : ErrFlag → Nat
  | .keylen => 8
  | .noinit => 9
  | .busy => 10
  | .cmd => 11

/-- Write 1 to clear: each flag whose bit of `v` is 1 becomes 0, the others stay (20_memory.md R59). -/
def ErrFlags.clearBy (e : ErrFlags) (v : Word) : ErrFlags :=
  { errKeylen := e.errKeylen && !v.getLsbD 8
    errNoinit := e.errNoinit && !v.getLsbD 9
    errBusy := e.errBusy && !v.getLsbD 10
    errCmd := e.errCmd && !v.getLsbD 11 }

/-- The STATUS word: zext_32({ERR_CMD, ERR_BUSY, ERR_NOINIT, ERR_KEYLEN, 0b000000, READY, BUSY}) (20_memory.md R58). -/
def statusWord (e : ErrFlags) (ready busy : Bool) : Word :=
  (BitVec.ofBool e.errCmd ++ BitVec.ofBool e.errBusy ++ BitVec.ofBool e.errNoinit ++ BitVec.ofBool e.errKeylen ++
    (0 : BitVec 6) ++ BitVec.ofBool ready ++ BitVec.ofBool busy).setWidth 32

/-- What a read of STATUS returns in a state (20_memory.md R58). -/
def State.status (s : State) : Word := statusWord s.errs s.ready s.busy

end Sys2Proof.Machine
end

