-- ==== Sys2Proof/Machine/Operands.lean ====
section
/-! DEFINITION. The implicit operands of the commands (30_encoding.md R84): key bytes from the key registers
(10_state.md R27), the bytes of a word, and the big-endian packing of blocks and keys (20_memory.md R51, R52). -/

namespace Sys2Proof.Machine

/-- A legal key length, 1 to 56 bytes (41_keyschedule.md R122; 00_scope.md R6 KEYLEN_MIN, KEYLEN_MAX). -/
def keylenLegal (len : Byte) : Bool :=
  decide (1 ≤ len.toNat) && decide (len.toNat ≤ 56)

/-- Byte `k` of a word counted from the most significant: byte 0 is bits 31:24, byte 3 is bits 7:0
(10_state.md R27; 42_feistel.md R140). -/
def wordByte (w : Word) (k : Nat) : Byte :=
  w.extractLsb' (24 - 8 * k) 8

/-- The word `{b0, b1, b2, b3}` (00_scope.md R10): `b0` in bits 31:24. -/
def wordOfBytes (b0 b1 b2 b3 : Byte) : Word := b0 ++ b1 ++ b2 ++ b3

/-- Key byte K[n] for 0 <= n <= 55 (10_state.md R27). Past the buffer there is no key byte (log 9). -/
def keyByte (keys : Vector Word 14) (n : Nat) : Except Fault Byte :=
  if h : n < 56 then .ok (wordByte (keys[n / 4]'(by omega)) (n % 4)) else .error .noKeyByte

/-- The left half of a block of bytes: DL = {B[0], B[1], B[2], B[3]} (20_memory.md R51). -/
def leftOfBytes (b : Vector Byte 8) : Word := wordOfBytes b[0] b[1] b[2] b[3]

/-- The right half of a block of bytes: DR = {B[4], B[5], B[6], B[7]} (20_memory.md R51). -/
def rightOfBytes (b : Vector Byte 8) : Word := wordOfBytes b[4] b[5] b[6] b[7]

/-- The bytes of the block in DL:DR (20_memory.md R51). -/
def bytesOfBlock (l r : Word) : Vector Byte 8 :=
  ⟨#[wordByte l 0, wordByte l 1, wordByte l 2, wordByte l 3,
     wordByte r 0, wordByte r 1, wordByte r 2, wordByte r 3], rfl⟩

/-- KEYj as a Host loads it from a key byte string: {k[4j], k[4j+1], k[4j+2], k[4j+3]}, bytes past the key's end written
as 0x00 (20_memory.md R52; 30_encoding.md R87 setkey). -/
def keyWordOfBytes (k : List Byte) (j : Nat) : Word :=
  wordOfBytes (k.getD (4 * j) 0) (k.getD (4 * j + 1) 0) (k.getD (4 * j + 2) 0) (k.getD (4 * j + 3) 0)

end Sys2Proof.Machine
end

