-- ==== Sys2Proof/Machine/Ops.lean ====
section
/-! DEFINITION. The named operations over the tables and the registers: reading and writing P and S (00_scope.md R12,
R13), recording an error and clearing it (60_exceptions.md R201, R208), drawing free values, accepting a command
(40_command_interface.md R100) and Reset (70_reset_and_hazards.md R240). -/

namespace Sys2Proof.Machine

/-! ### P and S -/

/-- The value of a table word; reading `⊥` faults (00_scope.md R13). -/
def readWord : Option Word → Except Fault Word
  | some w => .ok w
  | none => .error .noTableValue

/-- Read P[i] (00_scope.md R12). -/
def Tables.readP (t : Tables) (i : Fin 18) : Except Fault Word := readWord t.p[i]

/-- Read S[b][x] (00_scope.md R12). -/
def Tables.readS (t : Tables) (b : Fin 4) (x : Byte) : Except Fault Word :=
  readWord (t.s[b][x.toNat]'(x.isLt))

/-- P[i] <- v (00_scope.md R12). -/
def Tables.writeP (t : Tables) (i : Fin 18) (v : Word) : Tables := { t with p := t.p.set i (some v) }

/-- S[b][x] <- v (00_scope.md R12). -/
def Tables.writeS (t : Tables) (b : Fin 4) (x : Fin 256) (v : Word) : Tables :=
  { t with s := t.s.set b (t.s[b].set x (some v)) }

/-- Write word `n` of the order P[0], ..., P[17], S[0][0], ..., S[3][255] (41_keyschedule.md R136; the numbering of W in
10_state.md R34). There is no word past 1041. -/
def Tables.writeWord (t : Tables) (n : Nat) (v : Word) : Tables :=
  if hp : n < 18 then t.writeP ⟨n, hp⟩ v
  else if hs : n < 1042 then
    t.writeS ⟨(n - 18) / 256, by omega⟩ ⟨(n - 18) % 256, Nat.mod_lt _ (by omega)⟩ v
  else t

/-- Every word of P and S holds a value. -/
def Tables.Full (t : Tables) : Prop :=
  (∀ i : Fin 18, t.p[i].isSome = true) ∧ ∀ (b : Fin 4) (x : Fin 256), t.s[b][x].isSome = true

/-! ### Errors: the hardware's only exception mechanism -/

/-- set_err(F): record an error. Nothing but the flag changes (60_exceptions.md R201, R207, R211). -/
def State.setErr (s : State) (f : ErrFlag) : State := { s with errs := s.errs.set f }

/-- The only return from an error: the Host clears flags by writing 1 to their bits of STATUS (60_exceptions.md R208,
20_memory.md R59). -/
def State.clearErrs (s : State) (v : Word) : State := { s with errs := s.errs.clearBy v }

/-! ### Free values -/

/-- Fresh free values for the Engine's working registers, which are "unspecified" outside the Engine's step
(10_state.md R37, R40). Log 5. -/
def State.drawWork (s : State) : State :=
  { s with
    work :=
      { al := Config.freeWord s.draws
        ar := Config.freeWord (s.draws + 1)
        index := Config.freeIndex (s.draws + 2)
        left := Config.freeWord (s.draws + 3)
        right := Config.freeWord (s.draws + 4) }
    draws := s.draws + 5 }

/-- One fresh free 32-bit value for the Host: a read of DL or DR while BUSY = 1 (20_memory.md R62). Log 4. -/
def State.drawWord (s : State) : Word × State := (Config.freeWord s.draws, { s with draws := s.draws + 1 })

/-! ### Commands -/

/-- PEND <- p, and so BUSY <- 1 (40_command_interface.md R100; 10_state.md R28). -/
def State.accept (s : State) (p : Pend) : State := { s with pend := p }

/-- READY <- 0 (41_keyschedule.md R121). -/
def State.clearReady (s : State) : State := { s with ready := false }

/-- The acceptance of ENCRYPT and DECRYPT: ERR_BUSY before ERR_NOINIT before acceptance (40_command_interface.md R100,
R103, R106). -/
def acceptTransform (p : Pend) (s : State) : Host.Outcome State Fault Refusal :=
  if s.busy then .next (s.setErr .busy)
  else if s.ready then .next (s.accept p)
  else .next (s.setErr .noinit)

/-! ### Reset -/

/-- Reset sets every piece of state to its reset value (70_reset_and_hazards.md R240). What the agents do afterwards and
the count of free values are no state of KSFC and go on. Log 15. -/
def State.resetStep (s : State) : State :=
  { State.reset with events := s.events, draws := s.draws }

/-- Do `f` with the next state, if there is one. -/
def onNext (o : Host.Outcome State Fault Refusal) (f : State → State) : Host.Outcome State Fault Refusal :=
  match o with
  | .next s => .next (f s)
  | .fault r => .fault r
  | .refused r => .refused r

/-- A computation of the Engine as an outcome: a fault of its reads stops the machine. -/
def outcomeOf (e : Except Fault State) : Host.Outcome State Fault Refusal :=
  match e with
  | .ok s => .next s
  | .error f => .fault f

end Sys2Proof.Machine
end

