-- ==== Sys2Proof/Machine/Command.lean ====
section
/-! DEFINITION. The command form that does no work: NOP (40_command_interface.md R101). -/

namespace Sys2Proof.Machine

/-- NOP written to CMD: no effect, never rejected, not even while BUSY = 1 (40_command_interface.md R101). -/
def execNop (s : State) : Host.Outcome State Fault Refusal := .next s

end Sys2Proof.Machine
end

