-- ==== Sys2Proof/Machine/Feistel.lean ====
section
/-! DEFINITION. FeistelCore (42_feistel.md): the round function F, Encipher and Decipher, and the commands ENCRYPT and
DECRYPT with their Engine steps. Every read of P or S faults on a word that holds no value (00_scope.md R13). -/

namespace Sys2Proof.Machine

/-- The round function F: ((S[0][a] + S[1][b]) XOR S[2][c]) + S[3][d], where a is bits 31:24 of x and d is bits 7:0
(42_feistel.md R140). -/
def roundF (t : Tables) (x : Word) : Except Fault Word := do
  let a ← t.readS 0 (wordByte x 0)
  let b ← t.readS 1 (wordByte x 1)
  let c ← t.readS 2 (wordByte x 2)
  let d ← t.readS 3 (wordByte x 3)
  .ok (((a + b) ^^^ c) + d)

/-- One round with subkey `p` on halves (L, R): L <- L XOR p; R <- R XOR F(L) of the new L; swap (42_feistel.md R144). -/
def feistelRound (t : Tables) (p : Word) (lr : Word × Word) : Except Fault (Word × Word) := do
  let l := lr.1 ^^^ p
  let f ← roundF t l
  .ok (lr.2 ^^^ f, l)

/-- Rounds with the subkeys P[i] for i in a list, in order (42_feistel.md R142, R143). -/
def feistelRounds (t : Tables) : List (Fin 18) → Word × Word → Except Fault (Word × Word)
  | [], lr => .ok lr
  | i :: is, lr => do
    let p ← t.readP i
    let lr' ← feistelRound t p lr
    feistelRounds t is lr'

/-- After the rounds: undo the last swap, then R <- R XOR P[ir] and L <- L XOR P[il] (42_feistel.md R142, R143). -/
def whiten (t : Tables) (ir il : Fin 18) (lr : Word × Word) : Except Fault (Word × Word) := do
  let pr ← t.readP ir
  let pl ← t.readP il
  .ok (lr.2 ^^^ pl, lr.1 ^^^ pr)

/-- Encipher: rounds with P[0] to P[15], then P[16] on R and P[17] on L (42_feistel.md R142). -/
def encipher (t : Tables) (l r : Word) : Except Fault (Word × Word) := do
  let lr ← feistelRounds t [0, 1, 2, 3, 4, 5, 6, 7, 8, 9, 10, 11, 12, 13, 14, 15] (l, r)
  whiten t 16 17 lr

/-- Decipher: rounds with P[17] down to P[2], then P[1] on R and P[0] on L (42_feistel.md R143). -/
def decipher (t : Tables) (l r : Word) : Except Fault (Word × Word) := do
  let lr ← feistelRounds t [17, 16, 15, 14, 13, 12, 11, 10, 9, 8, 7, 6, 5, 4, 3, 2] (l, r)
  whiten t 1 0 lr

/-- ENCRYPT written to CMD (42_feistel.md R150): acceptance. The work is `encryptBody`, in the Engine's step. -/
def execEncrypt (s : State) : Host.Outcome State Fault Refusal := acceptTransform .encrypt s

/-- DECRYPT written to CMD (42_feistel.md R153): acceptance. The work is `decryptBody`, in the Engine's step. -/
def execDecrypt (s : State) : Host.Outcome State Fault Refusal := acceptTransform .decrypt s

/-- DL:DR <- (l, r), both halves after both were read (42_feistel.md R152, R155, R157). -/
def State.writeBlock (s : State) (lr : Word × Word) : State := { s with dl := lr.1, dr := lr.2 }

/-- encrypt_body() (42_feistel.md R152). -/
def encryptBody (s : State) : Except Fault State := do
  let lr ← encipher s.tables s.dl s.dr
  .ok (s.writeBlock lr)

/-- decrypt_body() (42_feistel.md R155). -/
def decryptBody (s : State) : Except Fault State := do
  let lr ← decipher s.tables s.dl s.dr
  .ok (s.writeBlock lr)

end Sys2Proof.Machine
end

