-- ==== Sys2Proof/Machine/KeySchedule.lean ====
section
/-! DEFINITION. KeySchedule (41_keyschedule.md): the command INIT and its Engine step, which loads the constants, XORs the
key into P and rebuilds all 1042 words by 521 self-encryptions. -/

namespace Sys2Proof.Machine

/-- INIT written to CMD (41_keyschedule.md R120): ERR_BUSY before ERR_KEYLEN before acceptance, which clears READY
(R121, R122; 40_command_interface.md R100). The work is `initBody`, in the Engine's step. -/
def execInit (s : State) : Host.Outcome State Fault Refusal :=
  if s.busy then .next (s.setErr .busy)
  else if keylenLegal s.keylen then .next (s.clearReady.accept .init)
  else .next (s.setErr .keylen)

/-- ks_load(): every word of P and S takes its constant, so nothing of the old tables survives (41_keyschedule.md R124). -/
def ksLoad (_old : Tables) : Tables := romTables

/-- Draw `k` more bytes of the cyclic key stream from position `j` into `d`: d <- (d << 8) OR K[j], j <- (j + 1) mod len
(41_keyschedule.md R125). The result is the group and the stream position after it. -/
def drawGroup (keys : Vector Word 14) (len : Nat) : Nat → Nat → Word → Except Fault (Word × Nat)
  | 0, j, d => .ok (d, j)
  | k + 1, j, d => do
    let b ← keyByte keys j
    drawGroup keys len k ((j + 1) % len) ((d <<< 8) ||| b.setWidth 32)

/-- The key XOR over the P-table words of a list, from stream position `j` (41_keyschedule.md R125). -/
def keyXorFrom (keys : Vector Word 14) (len : Nat) : List (Fin 18) → Nat → Tables → Except Fault Tables
  | [], _, t => .ok t
  | i :: is, j, t => do
    let dj ← drawGroup keys len 4 j 0
    let p ← t.readP i
    keyXorFrom keys len is dj.2 (t.writeP i (p ^^^ dj.1))

/-- ks_key_xor(len): P[0] to P[17] in order, one cyclic stream (41_keyschedule.md R125). -/
def ksKeyXor (keys : Vector Word 14) (len : Nat) (t : Tables) : Except Fault Tables :=
  keyXorFrom keys len [0, 1, 2, 3, 4, 5, 6, 7, 8, 9, 10, 11, 12, 13, 14, 15, 16, 17] 0 t

/-- The expansion in progress: the tables as they stand, the running block (AL, AR) and the index of the next table word
to write (10_state.md R37). -/
structure Expansion where
  tables : Tables
  al : Word
  ar : Word
  index : Nat
deriving DecidableEq, Repr

/-- One encryption of the expansion: encipher the running block on the current tables and write its halves to the next two
words, the left half first (41_keyschedule.md R128, R129, R130). -/
def expandStep (x : Expansion) : Except Fault Expansion := do
  let lr ← encipher x.tables x.al x.ar
  .ok
    { tables := (x.tables.writeWord x.index lr.1).writeWord (x.index + 1) lr.2
      al := lr.1
      ar := lr.2
      index := x.index + 2 }

/-- `k` encryptions of the expansion, strictly in order (41_keyschedule.md R130). -/
def expandSteps : Nat → Expansion → Except Fault Expansion
  | 0, x => .ok x
  | k + 1, x => do
    let y ← expandStep x
    expandSteps k y

/-- ks_expand(): 9 encryptions from (0, 0) for the P-table (41_keyschedule.md R128), then 512 for the S-boxes that continue
the running block (R129). -/
def ksExpand (t : Tables) : Except Fault Tables := do
  let x ← expandSteps 9 { tables := t, al := 0, ar := 0, index := 0 }
  let y ← expandSteps 512 x
  .ok y.tables

/-- The key schedule that the key registers and the key length give (41_keyschedule.md R123 to R129). -/
def buildSchedule (keys : Vector Word 14) (len : Nat) (old : Tables) : Except Fault Tables := do
  let t ← ksKeyXor keys len (ksLoad old)
  ksExpand t

/-- P and S <- t, READY <- 1 (41_keyschedule.md R123). -/
def State.installSchedule (s : State) (t : Tables) : State := { s with tables := t, ready := true }

/-- init_body() (41_keyschedule.md R123). -/
def initBody (s : State) : Except Fault State := do
  let t ← buildSchedule s.keys s.keylen.toNat s.tables
  .ok (s.installSchedule t)

end Sys2Proof.Machine
end

