-- ==== Sys2Proof/Machine/Bus.lean ====
section
/-! DEFINITION. The Host's accesses (20_memory.md R53 to R66): register reads, register writes, and the presentation of a
command word (40_command_interface.md R100). -/

namespace Sys2Proof.Machine

/-- accept(w): decode the command word; a reserved word sets ERR_CMD and does nothing else, whether or not BUSY = 1
(40_command_interface.md R100, R102). -/
def presentCommand (w : Word) (s : State) : Host.Outcome State Fault Refusal :=
  match decode w with
  | .ok i => exec i s
  | .error _ => .next (s.setErr .cmd)

/-- A read of DL or DR: a fresh free value while BUSY = 1, else the register (20_memory.md R62). -/
def readBlockHalf (v : Word) (s : State) : Word × State :=
  if s.busy then s.drawWord else (v, s)

/-- What a read returns, and the state after it (20_memory.md R55, R56, R58, R60, R62, R64); `none` is a reserved offset. -/
def readReg (r : Option Reg) (s : State) : Word × State :=
  match r with
  | some .cmd => (0, s)
  | some .status => (s.status, s)
  | some .keylen => (s.keylen.setWidth 32, s)
  | some .dl => readBlockHalf s.dl s
  | some .dr => readBlockHalf s.dr s
  | some (.key _) => (0, s)
  | none => (0, s)

/-- A write of an operand register: dropped with ERR_BUSY while BUSY = 1 (20_memory.md R61, R63, R65). -/
def writeOperand (write : State → State) (s : State) : State :=
  if s.busy then s.setErr .busy else write s

/-- DL <- v (20_memory.md R63). -/
def State.writeDl (s : State) (v : Word) : State := { s with dl := v }

/-- DR <- v (20_memory.md R63). -/
def State.writeDr (s : State) (v : Word) : State := { s with dr := v }

/-- KEYLEN <- v[7:0] (20_memory.md R61). -/
def State.writeKeylen (s : State) (v : Word) : State := { s with keylen := v.extractLsb' 0 8 }

/-- KEYj <- v (20_memory.md R65). -/
def State.writeKey (s : State) (j : Fin 14) (v : Word) : State := { s with keys := s.keys.set j v }

/-- A write of a register (20_memory.md R55, R57, R59, R61, R63, R65); `none` is a reserved offset. -/
def writeReg (r : Option Reg) (v : Word) (s : State) : Host.Outcome State Fault Refusal :=
  match r with
  | some .cmd => presentCommand v s
  | some .status => .next (s.clearErrs v)
  | some .keylen => .next (writeOperand (·.writeKeylen v) s)
  | some .dl => .next (writeOperand (·.writeDl v) s)
  | some .dr => .next (writeOperand (·.writeDr v) s)
  | some (.key j) => .next (writeOperand (·.writeKey j v) s)
  | none => .next s

/-- The Host receives a response. Log 11. -/
def State.respond (s : State) (x : Response) : State := { s with resp := some x }

/-- One Host access: an illegal one gets the bus error response and has no effect (20_memory.md R53; log 6). -/
def hostStep (a : Access) (s : State) : Host.Outcome State Fault Refusal :=
  if a.legal then
    match a with
    | .read off _ =>
      let vs := readReg (regAt off) s
      .next (vs.2.respond (.data vs.1))
    | .write off _ v => onNext (writeReg (regAt off) v s) (·.respond .written)
  else .fault .busError

end Sys2Proof.Machine
end

