-- ==== Sys2Proof/Machine/Engine.lean ====
section
/-! DEFINITION. The Engine's step (40_command_interface.md R104) and the moves of the three agents (00_scope.md R8). -/

namespace Sys2Proof.Machine

/-- PEND <- none, and so BUSY <- 0; the working registers are left with any values (40_command_interface.md R104;
10_state.md R37, log 5). -/
def State.complete (s : State) : State := { s.drawWork with pend := .none }

/-- engine_step(): the whole pending operation, then PEND <- none (40_command_interface.md R104). With nothing pending the
step is not enabled, and the turn passes with no change (log 2). -/
def engineStep (s : State) : Host.Outcome State Fault Refusal :=
  match s.pend with
  | .none => .next s
  | .init => onNext (outcomeOf (initBody s)) State.complete
  | .encrypt => onNext (outcomeOf (encryptBody s)) State.complete
  | .decrypt => onNext (outcomeOf (decryptBody s)) State.complete

/-- One move of an agent (00_scope.md R8; 60_exceptions.md R206). An access that overlaps reset has no transition
(70_reset_and_hazards.md R242; log 7). -/
def runEvent (e : Event) (s : State) : Host.Outcome State Fault Refusal :=
  match e with
  | .host a => hostStep a s
  | .engine => engineStep s
  | .reset => .next s.resetStep
  | .hostDuringReset _ => .refused .accessOverlapsReset

/-- Put one move first. -/
def State.before (s : State) (e : Event) : State := { s with events := e :: s.events }

/-- The Host's write of a command word to CMD, BusWrite(0x00, 4, w) (20_memory.md R57). -/
def cmdWrite (w : Word) : Event := .host (.write 0x00 4 w)

end Sys2Proof.Machine
end

