-- ==== Sys2Proof/Machine/Step.lean ====
section
/-! DEFINITION. One step of KSFC: the next move of `events` (log 1); when no move is left, the Engine completes what pends
and otherwise the machine idles (70_reset_and_hazards.md R243, R254; log 3). -/

namespace Sys2Proof.Machine

/-- One step of one agent (00_scope.md R8). -/
def step (s : State) : Host.Outcome State Fault Refusal :=
  match s.events with
  | [] => engineStep s
  | e :: rest => runEvent e { s with events := rest }

/-- The command word `w` (of `nbits` bits, the bits above them 0) as the Host's very next access, a write to CMD: where
KSFC takes its next instruction from (00_scope.md R9; 20_memory.md R70; log 12). -/
def State.withFetchWord (s : State) (nbits w : Nat) : State :=
  s.before (cmdWrite (BitVec.ofNat 32 (w % 2 ^ nbits)))

end Sys2Proof.Machine
end

