-- ==== Sys2Proof/Machine/HostSyntax.lean ====
section
/-! DEFINITION. The Host's statements and pseudo-instructions (30_encoding.md R86 to R88) as data, with the bus accesses
they perform. They are notation for accesses; no step of KSFC reads them. -/

namespace Sys2Proof.Machine

/-- A statement of the Host (30_encoding.md R86); a label is a line number. -/
inductive HostStmt where
  | wr (r : Reg) (imm : Word)
  | rd (r : Reg)
  | cmd (i : Instr)
  | bnz (r : Reg) (mask : Word) (label : Nat)
deriving DecidableEq, Repr

/-- The bus access of a statement (30_encoding.md R86). -/
def HostStmt.access : HostStmt → Access
  | .wr r imm => .write r.offset 4 imm
  | .rd r => .read r.offset 4
  | .cmd i => .write 0x00 4 (encode i)
  | .bnz r _ _ => .read r.offset 4

/-- Where the Host continues after the statement at `line`, given the value its access returned: `bnz` branches if
(value AND mask) != 0 (30_encoding.md R86). -/
def HostStmt.nextLine (line : Nat) (value : Word) : HostStmt → Nat
  | .wr _ _ => line + 1
  | .rd _ => line + 1
  | .cmd _ => line + 1
  | .bnz _ mask label => if value &&& mask ≠ 0 then label else line + 1

/-- The pseudo-instructions of 30_encoding.md R87. -/
inductive Pseudo where
  | wait
  | setkey (k : List Byte)
  | setblock (l r : Word)
  | getblock
  | clrerr
  | init
  | encrypt
  | decrypt
deriving DecidableEq, Repr

/-- The key words a `setkey` writes: KEYj for j = 0 .. ceil(len/4)-1, at most the 14 there are (30_encoding.md R87). -/
def setkeyWords (k : List Byte) : List HostStmt :=
  ((List.finRange 14).filter fun j => decide (4 * j.val < k.length)).map fun j =>
    .wr (.key j) (keyWordOfBytes k j.val)

/-- The expansion of a pseudo-instruction placed at `line` (30_encoding.md R87). -/
def Pseudo.expand (line : Nat) : Pseudo → List HostStmt
  | .wait => [.bnz .status 0x1 line]
  | .setkey k => .wr .keylen (BitVec.ofNat 32 k.length) :: setkeyWords k
  | .setblock l r => [.wr .dl l, .wr .dr r]
  | .getblock => [.rd .dl, .rd .dr]
  | .clrerr => [.wr .status 0x00000F00]
  | .init => [.cmd .init, .bnz .status 0x1 (line + 1)]
  | .encrypt => [.cmd .encrypt, .bnz .status 0x1 (line + 1)]
  | .decrypt => [.cmd .decrypt, .bnz .status 0x1 (line + 1)]

/-- A hexadecimal digit, capital. -/
def hexDigit (n : Nat) : Char := if n < 10 then Char.ofNat (48 + n) else Char.ofNat (55 + n)

/-- `digits` hexadecimal digits of a number, the most significant first. -/
def hexDigits : Nat → Nat → List Char
  | 0, _ => []
  | d + 1, n => hexDigits d (n / 16) ++ [hexDigit (n % 16)]

/-- The listing of an access: `W off data` or `R off` (30_encoding.md R88). -/
def Access.listing : Access → String
  | .read off _ => String.ofList ("R ".toList ++ hexDigits 2 off.toNat)
  | .write off _ v => String.ofList ("W ".toList ++ hexDigits 2 off.toNat ++ [' '] ++ hexDigits 8 v.toNat)

/-- The statements of a list as moves of the Host, one access each (30_encoding.md R86). -/
def hostMoves (stmts : List HostStmt) : List Event := stmts.map fun x => .host x.access

end Sys2Proof.Machine
end

