-- ==== Sys2Proof/Safety.lean ====
section
/-! DEFINITION. The terms in which claims speak of a safe run: the invariant of the machine, legal schedules, and
tables that are the schedule of some key. -/

namespace Sys2Proof.Machine

/-- The invariant that rules out states no run reaches: READY = 1 means P and S hold values (10_state.md R29); a
transform pends only while READY = 1 (40_command_interface.md R100, R106); an INIT pends only with READY = 0 and a legal
KEYLEN (41_keyschedule.md R121, R122). -/
structure State.Inv (s : State) : Prop where
  readyFull : s.ready = true → s.tables.Full
  encryptReady : s.pend = .encrypt → s.ready = true
  decryptReady : s.pend = .decrypt → s.ready = true
  initCleared : s.pend = .init → s.ready = false
  initLegal : s.pend = .init → keylenLegal s.keylen = true

/-- A move the spec defines: a legal Host access, an Engine turn or a Reset (20_memory.md R53; 70_reset_and_hazards.md
R242). -/
def Event.legal : Event → Bool
  | .host a => a.legal
  | .engine => true
  | .reset => true
  | .hostDuringReset _ => false

/-- Every move still to come is one the spec defines. -/
def State.LegalSchedule (s : State) : Prop := ∀ e ∈ s.events, e.legal = true

/-- The tables are the key schedule of some legal key (41_keyschedule.md R123). -/
def Tables.IsSchedule (t : Tables) : Prop :=
  ∃ (keys : Vector Word 14) (len : Byte),
    keylenLegal len = true ∧ buildSchedule keys len.toNat Tables.undefined = .ok t

/-- The whole of P and S has no value, or every word has one: no run leaves them partly built. -/
def Tables.Whole (t : Tables) : Prop := t = Tables.undefined ∨ t.Full

end Sys2Proof.Machine
end

