-- ==== Sys2Proof/Certificates/Slice0/Obligations.lean ====
section
/-! DEFINITION. The statements for the provers, one `def Obligations.<Name> : Prop` each, from the numbered rules of spec/.
The definitions of `Sys2Proof.Claims` say a rule a second time, independently of the machine, for statements to compare
the machine with. -/

open Sys2Proof Sys2Proof.Machine

/-! ### What the claims compare the machine with -/

/-- The error that a legal write of `v` at `off` causes in state `s`, if any: the causes of 60_exceptions.md R202 in the order
of R204 and R205. -/
def Sys2Proof.Claims.errorCause (s : State) (off : Offset) (v : Word) : Option ErrFlag :=
  if off = 0x00 then
    if 3 < v.toNat then some .cmd
    else if v = 0 then none
    else if s.pend ≠ .none then some .busy
    else if v = 1 then (if s.keylen.toNat = 0 ∨ 56 < s.keylen.toNat then some .keylen else none)
    else if s.ready = false then some .noinit
    else none
  else if off = 0x08 ∨ off = 0x10 ∨ off = 0x14 ∨ (0x20 ≤ off.toNat ∧ off.toNat ≤ 0x54) then
    if s.pend ≠ .none then some .busy else none
  else none

/-- Word n of the tables in the order P[0], ..., P[17], S[0][0], ..., S[3][255] (41_keyschedule.md R136). -/
def Sys2Proof.Claims.tableWord (t : Tables) (n : Nat) : Option Word :=
  if hp : n < 18 then t.p[n]
  else if hs : n < 1042 then
    (t.s[(n - 18) / 256]'(by omega))[(n - 18) % 256]'(Nat.mod_lt _ (by omega))
  else none

/-- The P phase of the expansion as the loop of 41_keyschedule.md R128. -/
def Sys2Proof.Claims.expandPLoop (t : Tables) : Except Fault (Tables × Word × Word) :=
  [(0, 1), (2, 3), (4, 5), (6, 7), (8, 9), (10, 11), (12, 13), (14, 15), (16, 17)].foldlM
    (fun (x : Tables × Word × Word) (i : Fin 18 × Fin 18) => do
      let lr ← encipher x.1 x.2.1 x.2.2
      .ok ((x.1.writeP i.1 lr.1).writeP i.2 lr.2, lr))
    (t, 0, 0)

/-- The S phase of the expansion as the two loops of 41_keyschedule.md R129: box b from 0 to 3 and, in each, entries 2k and
2k + 1 for k from 0 to 127. -/
def Sys2Proof.Claims.expandSLoop (x : Tables × Word × Word) : Except Fault (Tables × Word × Word) :=
  (List.finRange 4).foldlM
    (fun x b =>
      (List.finRange 128).foldlM
        (fun (x : Tables × Word × Word) (k : Fin 128) => do
          let lr ← encipher x.1 x.2.1 x.2.2
          .ok ((x.1.writeS b ⟨2 * k.val, by omega⟩ lr.1).writeS b ⟨2 * k.val + 1, by omega⟩ lr.2, lr))
        x)
    x

/-- Two states that differ at most in the key registers, the tables and the Engine's working registers. -/
def Sys2Proof.Claims.SameButSecrets (s t : State) : Prop :=
  t = { s with keys := t.keys, tables := t.tables, work := t.work }

/-- The next move completes no operation, accepts no INIT, is no Reset and writes neither DL nor DR (42_feistel.md R159). -/
def Sys2Proof.Claims.QuietMove (s : State) : Prop :=
  ∃ e rest, s.events = e :: rest ∧
    ((∃ off n, e = .host (.read off n)) ∨
     (∃ off n v, e = .host (.write off n v) ∧ off ≠ 0x10 ∧ off ≠ 0x14 ∧
        ¬(off = 0x00 ∧ v = 1 ∧ s.pend = .none ∧ 1 ≤ s.keylen.toNat ∧ s.keylen.toNat ≤ 56)) ∨
     (e = .engine ∧ s.pend = .none))

/-- A run of quiet moves. -/
inductive Sys2Proof.Claims.QuietRun : State → State → Prop where
  | refl (s : State) : Sys2Proof.Claims.QuietRun s s
  | move {s s' t : State} : Sys2Proof.Claims.QuietMove s → step s = .next s' →
      Sys2Proof.Claims.QuietRun s' t → Sys2Proof.Claims.QuietRun s t

open Sys2Proof.Claims

/-! ### Encoding -/

/-- Sanity: words written out from 30_encoding.md R81 and 95_test_vectors.md section 2.1. -/
def Obligations.SampleCommandWordsDecode : Prop :=
  decode 0x00000000 = .ok .nop ∧ decode 0x00000001 = .ok .init ∧ decode 0x00000002 = .ok .encrypt ∧
  decode 0x00000003 = .ok .decrypt ∧ decode 0x00000004 = .error .opReserved ∧ decode 0x0000000F = .error .opReserved ∧
  decode 0x00000010 = .error .rsvdNotZero ∧ decode 0x00000012 = .error .rsvdNotZero ∧
  decode 0x80000001 = .error .rsvdNotZero ∧ decode 0xFFFFFFFF = .error .rsvdNotZero

/-- 30_encoding.md R83, whole: which words decode as what, the rest being RESERVED. -/
def Obligations.DecodeIsExactMatch : Prop :=
  ∀ w : Word,
    (decode w = .ok .nop ↔ w = 0x00000000) ∧ (decode w = .ok .init ↔ w = 0x00000001) ∧
    (decode w = .ok .encrypt ↔ w = 0x00000002) ∧ (decode w = .ok .decrypt ↔ w = 0x00000003) ∧
    ((∃ r, decode w = .error r) ↔ (w.extractLsb' 4 28 ≠ 0 ∨ 4 ≤ (w.extractLsb' 0 4).toNat))

/-- Decoding and encoding agree in both directions: a word decodes to an instruction exactly when it is that instruction's
word, for the decoder and for the host's reading of a table word of 32 bits (30_encoding.md R81, R83). -/
def Obligations.DecodeEncodeAgree : Prop :=
  (∀ (i : Instr) (w : Word), i.wf = true → (decode w = .ok i ↔ w = encode i)) ∧
  (∀ (i : Instr) (n : Nat), n < 2 ^ 32 → (decodeTableWord 32 n = some i ↔ n = (encode i).toNat))

/-! ### A step runs the decoded instruction -/

/-- A CMD write whose word decodes to i runs exec i, and the Host gets its completion; the word placed by withFetchWord is
such a write (20_memory.md R57; 00_scope.md R9). The moves in `events` and the response are the model's (logs 1, 11, 12). -/
def Obligations.StepRunsDecodedInstruction : Prop :=
  (∀ (s : State) (w : Word) (rest : List Event) (i : Instr), s.events = cmdWrite w :: rest → decode w = .ok i →
    ∀ t, exec i { s with events := rest } = .next t → step s = .next { t with resp := some .written }) ∧
  (∀ (s : State) (i : Instr), ∀ t, exec i s = .next t →
    step (s.withFetchWord 32 (encode i).toNat) = .next { t with resp := some .written })

/-! ### Commands -/

/-- 40_command_interface.md R100, whole: what one CMD write does in its one Host step, for every word and every state. -/
def Obligations.CommandAcceptanceChecksInOrder : Prop :=
  (∀ (w : Word) (s : State) (rest : List Event), s.events = cmdWrite w :: rest →
    step s = onNext (presentCommand w { s with events := rest }) (·.respond .written)) ∧
  ∀ (w : Word) (s : State),
    presentCommand w s =
      (if w.extractLsb' 4 28 ≠ 0 ∨ 4 ≤ (w.extractLsb' 0 4).toNat then
        .next { s with errs := { s.errs with errCmd := true } }
      else if w = 0 then .next s
      else if s.pend ≠ .none then .next { s with errs := { s.errs with errBusy := true } }
      else if w = 1 then
        (if ¬(1 ≤ s.keylen.toNat ∧ s.keylen.toNat ≤ 56) then .next { s with errs := { s.errs with errKeylen := true } }
        else .next { s with ready := false, pend := .init })
      else if s.ready = false then .next { s with errs := { s.errs with errNoinit := true } }
      else .next { s with pend := if w = 2 then .encrypt else .decrypt })

/-- 40_command_interface.md R101: NOP has no effect in any state, busy or not, ready or not. -/
def Obligations.NopHasNoEffect : Prop :=
  (∀ s : State, exec .nop s = .next s) ∧
  (∀ (s : State) (rest : List Event), s.events = cmdWrite 0 :: rest →
    step s = .next { s with events := rest, resp := some .written })

/-- 40_command_interface.md R102: a reserved word sets ERR_CMD and changes nothing else, whether or not BUSY = 1. -/
def Obligations.ReservedWordSetsOnlyErrCmd : Prop :=
  ∀ (s : State) (rest : List Event) (w : Word), s.events = cmdWrite w :: rest →
    (w.extractLsb' 4 28 ≠ 0 ∨ 4 ≤ (w.extractLsb' 0 4).toNat) →
    step s = .next { s with errs := { s.errs with errCmd := true }, events := rest, resp := some .written }

/-- INIT completes: with nothing pending and a legal KEYLEN it is accepted, READY drops, and the Engine's step loads the
constants, XORs the key and expands; then READY = 1 and BUSY = 0. DL, DR, KEYLEN, the key registers and the error flags
are unchanged (41_keyschedule.md sections 1 to 3). -/
def Obligations.InitAcceptedThenBuildsSchedule : Prop :=
  ∀ s : State, s.pend = .none → 1 ≤ s.keylen.toNat → s.keylen.toNat ≤ 56 →
    exec .init s = .next { s with ready := false, pend := .init } ∧
    ∃ xored tab u,
      ksKeyXor s.keys s.keylen.toNat romTables = .ok xored ∧ ksExpand xored = .ok tab ∧
      engineStep { s with ready := false, pend := .init } = .next u ∧
      u.tables = tab ∧ tab.Full ∧ u.ready = true ∧ u.pend = .none ∧
      u.dl = s.dl ∧ u.dr = s.dr ∧ u.keylen = s.keylen ∧ u.keys = s.keys ∧ u.errs = s.errs ∧
      u.events = s.events ∧ u.resp = s.resp

/-- ENCRYPT completes: with nothing pending and READY = 1 it is accepted, and on valued tables the Engine's step replaces
DL:DR by its encipherment and changes nothing else the Host can see (42_feistel.md section 4). That READY = 1 goes with valued tables is the invariant
`State.Inv`. -/
def Obligations.EncryptAcceptedThenEnciphers : Prop :=
  ∀ s : State, s.pend = .none → s.ready = true →
    exec .encrypt s = .next { s with pend := .encrypt } ∧
    (s.tables.Full → ∃ l r u,
      encipher s.tables s.dl s.dr = .ok (l, r) ∧ engineStep { s with pend := .encrypt } = .next u ∧
      u.dl = l ∧ u.dr = r ∧ u.pend = .none ∧ u.ready = true ∧ u.tables = s.tables ∧ u.keylen = s.keylen ∧
      u.keys = s.keys ∧ u.errs = s.errs ∧ u.events = s.events ∧ u.resp = s.resp)

/-- DECRYPT completes, as ENCRYPT does with Decipher (42_feistel.md section 5). -/
def Obligations.DecryptAcceptedThenDeciphers : Prop :=
  ∀ s : State, s.pend = .none → s.ready = true →
    exec .decrypt s = .next { s with pend := .decrypt } ∧
    (s.tables.Full → ∃ l r u,
      decipher s.tables s.dl s.dr = .ok (l, r) ∧ engineStep { s with pend := .decrypt } = .next u ∧
      u.dl = l ∧ u.dr = r ∧ u.pend = .none ∧ u.ready = true ∧ u.tables = s.tables ∧ u.keylen = s.keylen ∧
      u.keys = s.keys ∧ u.errs = s.errs ∧ u.events = s.events ∧ u.resp = s.resp)

/-- 41_keyschedule.md R135 and R122: a rejected INIT changes nothing but its flag, and which states reject it. -/
def Obligations.RejectedInitChangesOnlyItsFlag : Prop :=
  ∀ s : State,
    (s.pend ≠ .none → exec .init s = .next { s with errs := { s.errs with errBusy := true } }) ∧
    (s.pend = .none → (s.keylen.toNat = 0 ∨ 56 < s.keylen.toNat) →
      exec .init s = .next { s with errs := { s.errs with errKeylen := true } })

/-- The frame of the four instructions in the step that writes them: no data register, key register, table word, working
register or field of the model changes; READY changes only when an INIT is accepted; at most one of the flags and PEND
changes (40_command_interface.md section 1). -/
def Obligations.InstructionFrame : Prop :=
  ∀ (i : Instr) (s t : State), exec i s = .next t →
    t.dl = s.dl ∧ t.dr = s.dr ∧ t.keylen = s.keylen ∧ t.keys = s.keys ∧ t.tables = s.tables ∧ t.work = s.work ∧
    t.events = s.events ∧ t.resp = s.resp ∧ t.draws = s.draws ∧
    (t.ready ≠ s.ready → i = .init ∧ s.pend = .none ∧ t.pend = .init ∧ t.ready = false) ∧
    (t.pend ≠ s.pend → s.pend = .none ∧ t.errs = s.errs) ∧
    (t.errs ≠ s.errs → t.pend = s.pend ∧ t.ready = s.ready)

/-! ### Errors -/

/-- A write that has a cause of error sets the flag of its first cause and changes nothing else of KSFC; an illegal write is a
bus error before anything else (60_exceptions.md sections 3 and 4). That the bus error is a fault that ends the run is the
model's (log 6). -/
def Obligations.ErrorSetsOneFlagAndNothingElse : Prop :=
  ∀ (s : State) (rest : List Event) (off : Offset) (v : Word),
    (∀ n, s.events = .host (.write off n v) :: rest → ¬(n = 4 ∧ off.toNat % 4 = 0) → step s = .fault .busError) ∧
    (s.events = .host (.write off 4 v) :: rest → off.toNat % 4 = 0 →
      (∀ f, errorCause s off v = some f →
        step s = .next { s with errs := s.errs.set f, events := rest, resp := some .written }) ∧
      (errorCause s off v = none →
        ∃ t, step s = .next t ∧ ∀ f, t.errs.get f = true → s.errs.get f = true))

/-- In every step a flag goes from 0 to 1 exactly when a cause of that flag is written, a flag's code is its bit of
STATUS, and the cause of a bus error is an illegal access (60_exceptions.md section 2; the model's fault for it: log 6). -/
def Obligations.FlagIsSetExactlyByItsCause : Prop :=
  (∀ (s t : State) (f : ErrFlag), step s = .next t → s.errs.get f = false →
    (t.errs.get f = true ↔
      ∃ off v rest, s.events = .host (.write off 4 v) :: rest ∧ errorCause s off v = some f)) ∧
  (∀ (s : State) (f : ErrFlag), s.status.getLsbD f.bit = s.errs.get f) ∧
  (∀ s : State, step s = .fault .busError ↔
    ∃ a rest, s.events = .host a :: rest ∧ ¬(a.bytes = 4 ∧ a.off.toNat % 4 = 0))

/-- A flag that is 1 goes to 0 only when the Host writes 1 to its bit of STATUS, or at Reset (10_state.md R26). -/
def Obligations.FlagIsClearedOnlyByWriteOneOrReset : Prop :=
  ∀ (s t : State) (f : ErrFlag), step s = .next t → s.errs.get f = true → t.errs.get f = false →
    (∃ v rest, s.events = .host (.write 0x04 4 v) :: rest ∧ v.getLsbD f.bit = true) ∨
    (∃ rest, s.events = .reset :: rest)

/-! ### The register window -/

/-- 20_memory.md R54: the register at each word offset, and no register at the others. -/
def Obligations.RegisterMapOffsets : Prop :=
  Reg.offset .cmd = 0x00 ∧ Reg.offset .status = 0x04 ∧ Reg.offset .keylen = 0x08 ∧ Reg.offset .dl = 0x10 ∧
  Reg.offset .dr = 0x14 ∧ (∀ j : Fin 14, (Reg.offset (.key j)).toNat = 0x20 + 4 * j.val) ∧
  (∀ (off : Offset) (r : Reg), regAt off = some r ↔ off = r.offset)

/-- 20_memory.md R50 with BASE_ADDR a multiple of 128 (00_scope.md R7): the window is the 128 addresses from the base. -/
def Obligations.WindowIs128BytesAtBase : Prop :=
  ∀ (base addr : Nat) (off : Offset), 128 ∣ base →
    (windowOffset base addr = some off ↔ addr = base + off.toNat) ∧
    (windowOffset base addr = some off → addr % 128 = off.toNat)

/-- An access that is not of 4 bytes at a multiple of 4 gets the bus error, the model's fault (20_memory.md R53; log 6);
every other Host access is answered, in every state. -/
def Obligations.ExactlyLegalAccessesAreAnswered : Prop :=
  ∀ (s : State) (a : Access) (rest : List Event), s.events = .host a :: rest →
    ((a.bytes = 4 ∧ a.off.toNat % 4 = 0) → ∃ t x, step s = .next t ∧ t.events = rest ∧ t.resp = some x) ∧
    (¬(a.bytes = 4 ∧ a.off.toNat % 4 = 0) → step s = .fault .busError)

/-- 20_memory.md R58: a STATUS read returns the flags at their bits and zeros elsewhere, and changes nothing. -/
def Obligations.StatusReadReturnsFlags : Prop :=
  ∀ (s : State) (rest : List Event), s.events = .host (.read 0x04 4) :: rest →
    ∃ v : Word,
      step s = .next { s with events := rest, resp := some (.data v) } ∧
      (∀ k, v.getLsbD k =
        (if k = 0 then decide (s.pend ≠ .none) else if k = 1 then s.ready else if k = 8 then s.errs.errKeylen
        else if k = 9 then s.errs.errNoinit else if k = 10 then s.errs.errBusy else if k = 11 then s.errs.errCmd
        else false))

/-- 20_memory.md R59: a STATUS write clears each flag whose bit is 1 and does nothing else, busy or not. -/
def Obligations.StatusWriteClearsOnesOnly : Prop :=
  ∀ (s : State) (rest : List Event) (v : Word), s.events = .host (.write 0x04 4 v) :: rest →
    step s = .next
      { s with
        errs :=
          { errKeylen := if v.getLsbD 8 then false else s.errs.errKeylen
            errNoinit := if v.getLsbD 9 then false else s.errs.errNoinit
            errBusy := if v.getLsbD 10 then false else s.errs.errBusy
            errCmd := if v.getLsbD 11 then false else s.errs.errCmd }
        events := rest
        resp := some .written }

/-- 20_memory.md R61, R63, R65: writes of KEYLEN, DL, DR and KEYj store the value while idle and are dropped with ERR_BUSY
while busy; nothing else changes, P and S among it. -/
def Obligations.OperandWritesStoreOrSetErrBusy : Prop :=
  ∀ (s : State) (rest : List Event) (off : Offset) (v : Word), s.events = .host (.write off 4 v) :: rest →
    ((off = 0x08 ∨ off = 0x10 ∨ off = 0x14 ∨ ∃ j : Fin 14, off.toNat = 0x20 + 4 * j.val) → s.pend ≠ .none →
      step s = .next { s with errs := { s.errs with errBusy := true }, events := rest, resp := some .written }) ∧
    (s.pend = .none →
      (off = 0x08 → step s = .next { s with keylen := v.extractLsb' 0 8, events := rest, resp := some .written }) ∧
      (off = 0x10 → step s = .next { s with dl := v, events := rest, resp := some .written }) ∧
      (off = 0x14 → step s = .next { s with dr := v, events := rest, resp := some .written }) ∧
      (∀ j : Fin 14, off.toNat = 0x20 + 4 * j.val →
        step s = .next { s with keys := s.keys.set j v, events := rest, resp := some .written }))

/-- 20_memory.md R62 with the free value of log 4: DL and DR read as themselves while idle; while busy the read returns the
free value of the current count, whatever it is, and the count moves on. -/
def Obligations.BlockReadsAreFreeWhileBusy : Prop :=
  ∀ (s : State) (rest : List Event) (off : Offset), s.events = .host (.read off 4) :: rest →
    (off = 0x10 ∨ off = 0x14) →
    (s.pend = .none →
      step s = .next { s with events := rest, resp := some (.data (if off = 0x10 then s.dl else s.dr)) }) ∧
    (s.pend ≠ .none →
      step s = .next
        { s with events := rest, resp := some (.data (Config.freeWord s.draws)), draws := s.draws + 1 })

/-- 20_memory.md R56, R60, R64: CMD and KEYj read as 0, KEYLEN reads zero-extended, and no state changes, busy or not. -/
def Obligations.CmdKeyAndKeylenReads : Prop :=
  ∀ (s : State) (rest : List Event) (off : Offset), s.events = .host (.read off 4) :: rest →
    (off = 0x00 → step s = .next { s with events := rest, resp := some (.data 0) }) ∧
    ((∃ j : Fin 14, off.toNat = 0x20 + 4 * j.val) → step s = .next { s with events := rest, resp := some (.data 0) }) ∧
    (off = 0x08 → step s = .next { s with events := rest, resp := some (.data (s.keylen.setWidth 32)) })

/-- 20_memory.md R55: a word access to a reserved offset is legal and has no effect, busy or not. -/
def Obligations.ReservedOffsetsHaveNoEffect : Prop :=
  ∀ (s : State) (rest : List Event) (off : Offset),
    (off = 0x0C ∨ off = 0x18 ∨ off = 0x1C ∨ (0x58 ≤ off.toNat ∧ off.toNat % 4 = 0)) →
    (s.events = .host (.read off 4) :: rest → step s = .next { s with events := rest, resp := some (.data 0) }) ∧
    (∀ v, s.events = .host (.write off 4 v) :: rest → step s = .next { s with events := rest, resp := some .written })

/-- Reads have no side effect on KSFC, and reading a register twice in a row gives the same value twice, except DL and DR
while BUSY = 1 (20_memory.md section 4). -/
def Obligations.ReadsAreIdempotent : Prop :=
  ∀ (s : State) (rest : List Event) (off : Offset) (n : Nat) (t : State),
    s.events = .host (.read off n) :: .host (.read off n) :: rest → step s = .next t →
    t = { s with events := t.events, resp := t.resp, draws := t.draws } ∧
    (¬((off = 0x10 ∨ off = 0x14) ∧ s.pend ≠ .none) →
      ∃ u, step t = .next u ∧ u = { t with events := rest })

/-- Who writes the operand registers: DL and DR the Host while idle and the Engine's ENCRYPT and DECRYPT; KEYLEN and the key
registers the Host while idle; and Reset (10_state.md section 2). -/
def Obligations.OperandRegisterWriters : Prop :=
  ∀ s t : State, step s = .next t → (∀ rest, s.events ≠ .reset :: rest) →
    (t.keylen ≠ s.keylen → s.pend = .none ∧ ∃ v rest, s.events = .host (.write 0x08 4 v) :: rest) ∧
    (∀ j : Fin 14, t.keys[j] ≠ s.keys[j] →
      s.pend = .none ∧ ∃ v rest, s.events = .host (.write (BitVec.ofNat 7 (0x20 + 4 * j.val)) 4 v) :: rest) ∧
    (t.dl ≠ s.dl →
      (s.pend = .none ∧ ∃ v rest, s.events = .host (.write 0x10 4 v) :: rest) ∨
      ((s.pend = .encrypt ∨ s.pend = .decrypt) ∧ (s.events = [] ∨ ∃ rest, s.events = .engine :: rest))) ∧
    (t.dr ≠ s.dr →
      (s.pend = .none ∧ ∃ v rest, s.events = .host (.write 0x14 4 v) :: rest) ∨
      ((s.pend = .encrypt ∨ s.pend = .decrypt) ∧ (s.events = [] ∨ ∃ rest, s.events = .engine :: rest)))

/-- The key and the schedule cannot be read: one Host access, whatever it is, gives the same response and leaves states that
still differ at most in the key registers, the tables and the working registers (60_exceptions.md section 5). For a read of
DL or DR while BUSY = 1 the equal responses are the model's choice: free values at one count are equal (log 4), where the
hardware's two reads may differ. The bus error is the model's fault (log 6). -/
def Obligations.HostCannotReadKeyOrTables : Prop :=
  ∀ (s t : State) (a : Access) (rest : List Event), SameButSecrets s t → s.events = .host a :: rest →
    (∃ s' t', step s = .next s' ∧ step t = .next t' ∧ SameButSecrets s' t') ∨
    (step s = .fault .busError ∧ step t = .fault .busError)

/-! ### The cipher -/

/-- 42_feistel.md R140: the round function, on whatever words the four S-box reads give. -/
def Obligations.RoundFunctionAddsXorsAdds : Prop :=
  ∀ (t : Tables) (x a b c d : Word),
    t.readS 0 (x.extractLsb' 24 8) = .ok a → t.readS 1 (x.extractLsb' 16 8) = .ok b →
    t.readS 2 (x.extractLsb' 8 8) = .ok c → t.readS 3 (x.extractLsb' 0 8) = .ok d →
    roundF t x = .ok (((a + b) ^^^ c) + d)

/-- 42_feistel.md R142 and R143: with halves L i, R i that follow the rounds of R144 under the subkeys in use, Encipher
gives the unswapped last halves XORed with P[17] and P[16], and Decipher those XORed with P[0] and P[1]. -/
def Obligations.EncipherAndDecipherFollowRounds : Prop :=
  ∀ (t : Tables) (p : Nat → Word) (f : Word → Word) (L R : Nat → Word),
    (∀ i : Fin 18, t.readP i = .ok (p i)) → (∀ x, roundF t x = .ok (f x)) →
    ((∀ i, i < 16 → L (i + 1) = R i ^^^ f (L i ^^^ p i) ∧ R (i + 1) = L i ^^^ p i) →
      encipher t (L 0) (R 0) = .ok (R 16 ^^^ p 17, L 16 ^^^ p 16)) ∧
    ((∀ i, i < 16 → L (i + 1) = R i ^^^ f (L i ^^^ p (17 - i)) ∧ R (i + 1) = L i ^^^ p (17 - i)) →
      decipher t (L 0) (R 0) = .ok (R 16 ^^^ p 0, L 16 ^^^ p 1))

/-- 42_feistel.md R145: for every content of P and S, Decipher undoes Encipher and Encipher undoes Decipher, and on valued
tables Encipher is a bijection of blocks. -/
def Obligations.DecipherInvertsEncipher : Prop :=
  (∀ (t : Tables) (l r l' r' : Word), encipher t l r = .ok (l', r') ↔ decipher t l' r' = .ok (l, r)) ∧
  (∀ t : Tables, t.Full → (∀ l r, ∃ l' r', encipher t l r = .ok (l', r')) ∧
    ∀ l' r', ∃! lr : Word × Word, encipher t lr.1 lr.2 = .ok (l', r'))

/-- 42_feistel.md R159: ENCRYPT completes, then, after a run that completes nothing, accepts no INIT, meets no Reset and
writes neither DL nor DR, DECRYPT completes: DL:DR is back. The same with DECRYPT first. -/
def Obligations.DecryptAfterEncryptRestoresBlock : Prop :=
  ∀ s a b c : State, engineStep s = .next a → QuietRun a b → engineStep b = .next c →
    ((s.pend = .encrypt ∧ b.pend = .decrypt) ∨ (s.pend = .decrypt ∧ b.pend = .encrypt)) →
    c.dl = s.dl ∧ c.dr = s.dr

/-! ### The key schedule -/

/-- 41_keyschedule.md R124 with the numbering of 10_state.md R34: the load gives word n of the tables the constant W(n),
whatever the tables held. -/
def Obligations.ConstantLoadOverwritesEveryWord : Prop :=
  romWords.length = 1042 ∧
  ∀ (old : Tables),
    (∀ i : Fin 18, (ksLoad old).p[i] = romWords[i.val]?) ∧
    (∀ (b : Fin 4) (x : Fin 256), (ksLoad old).s[b][x] = romWords[18 + 256 * b.val + x.val]?)

/-- 10_state.md R35: the two checks of the ROM and its first and last words. -/
def Obligations.RomPassesItsChecks : Prop :=
  romWords.length = 1042 ∧ romWords.foldl (· + ·) 0 = 0x6BBF03AC ∧ romWords.foldl (· ^^^ ·) 0 = 0x6FFA520A ∧
  romWords[0]? = some 0x243F6A88 ∧ romWords[18]? = some 0xD1310BA6 ∧ romWords[1041]? = some 0x3AC372E6

/-- 10_state.md R34: the ROM is 1042 words W(0) to W(1041), ROM_P[i] = W(i), ROM_S[b][i] = W(18 + 256 b + i), and
W(n) = floor(frac(π) * 2^(32*(n+1))) mod 2^32. -/
def Obligations.RomIsTheFractionOfPi : Prop :=
  romWords.length = 1042 ∧
  (∀ i : Fin 18, romTables.p[i] = romWords[i.val]?) ∧
  (∀ (b : Fin 4) (i : Fin 256), romTables.s[b][i] = romWords[18 + 256 * b.val + i.val]?) ∧
  ∀ (n : Nat) (w : Word), romWords[n]? = some w →
    w.toNat = ⌊Int.fract Real.pi * 2 ^ (32 * (n + 1))⌋₊ % 2 ^ 32

/-- 41_keyschedule.md R126 with R127: after the key XOR, P[i] has been XORed with the four stream bytes 4i to 4i+3 modulo
the length, the first in bits 31:24; S is untouched. -/
def Obligations.KeyXorUsesCyclicGroups : Prop :=
  ∀ (keys : Vector Word 14) (len : Nat) (t : Tables), 1 ≤ len → len ≤ 56 → t.Full →
    ∃ t', ksKeyXor keys len t = .ok t' ∧ t'.s = t.s ∧
      ∀ (i : Fin 18) (p : Word) (b0 b1 b2 b3 : Byte), t.readP i = .ok p →
        keyByte keys ((4 * i.val) % len) = .ok b0 → keyByte keys ((4 * i.val + 1) % len) = .ok b1 →
        keyByte keys ((4 * i.val + 2) % len) = .ok b2 → keyByte keys ((4 * i.val + 3) % len) = .ok b3 →
        t'.readP i = .ok (p ^^^ (b0 ++ b1 ++ b2 ++ b3 : Word))

/-- 41_keyschedule.md R128 and R129: the expansion is the P loop and then the S loops, in order, on the running block. -/
def Obligations.ExpansionIsTheSequentialLoops : Prop :=
  ∀ t : Tables, ksExpand t = (do
    let x ← expandPLoop t
    let y ← expandSLoop x
    .ok y.1)

/-- 41_keyschedule.md R136 and R130: an encryption of the expansion on the current tables writes the next two words with its
halves and no other word; the whole expansion is 521 of them from word 0 on. -/
def Obligations.ExpansionWritesNextTwoWords : Prop :=
  (∀ (x y : Expansion), expandStep x = .ok y → x.index + 1 < 1042 →
    encipher x.tables x.al x.ar = .ok (y.al, y.ar) ∧ y.index = x.index + 2 ∧
    tableWord y.tables x.index = some y.al ∧ tableWord y.tables (x.index + 1) = some y.ar ∧
    ∀ n, n ≠ x.index → n ≠ x.index + 1 → tableWord y.tables n = tableWord x.tables n) ∧
  (∀ t tab : Tables, ksExpand t = .ok tab ↔
    ∃ y, expandSteps 521 { tables := t, al := 0, ar := 0, index := 0 } = .ok y ∧ y.index = 1042 ∧ y.tables = tab)

/-- 41_keyschedule.md R133: the schedule depends only on the length and the first that many key bytes; the old tables do
not enter. -/
def Obligations.ScheduleIgnoresBytesPastLength : Prop :=
  ∀ (keys keys' : Vector Word 14) (len : Nat) (old old' : Tables), 1 ≤ len → len ≤ 56 →
    (∀ n, n < len → keyByte keys n = keyByte keys' n) →
    buildSchedule keys len old = buildSchedule keys' len old'

/-- 41_keyschedule.md R134: keys whose cyclic byte streams agree on the first 72 bytes give the same schedule. -/
def Obligations.ScheduleDependsOnFirst72StreamBytes : Prop :=
  ∀ (keys keys' : Vector Word 14) (len len' : Nat) (old old' : Tables),
    1 ≤ len → len ≤ 56 → 1 ≤ len' → len' ≤ 56 →
    (∀ n, n < 72 → keyByte keys (n % len) = keyByte keys' (n % len')) →
    buildSchedule keys len old = buildSchedule keys' len' old'

/-- 20_memory.md R51: packing a block of bytes into DL:DR and back, and the worked example "BLOWFISH". -/
def Obligations.BlockBytesAreBigEndian : Prop :=
  (∀ b : Vector Byte 8, bytesOfBlock (leftOfBytes b) (rightOfBytes b) = b) ∧
  (∀ l r : Word, leftOfBytes (bytesOfBlock l r) = l ∧ rightOfBytes (bytesOfBlock l r) = r) ∧
  (∀ b : Vector Byte 8, leftOfBytes b = (b[0] ++ b[1] ++ b[2] ++ b[3] : Word) ∧
    rightOfBytes b = (b[4] ++ b[5] ++ b[6] ++ b[7] : Word)) ∧
  (∀ b : Vector Byte 8, (leftOfBytes b).extractLsb' 24 8 = b[0] ∧ (rightOfBytes b).extractLsb' 0 8 = b[7]) ∧
  leftOfBytes ⟨#[0x42, 0x4C, 0x4F, 0x57, 0x46, 0x49, 0x53, 0x48], rfl⟩ = 0x424C4F57 ∧
  rightOfBytes ⟨#[0x42, 0x4C, 0x4F, 0x57, 0x46, 0x49, 0x53, 0x48], rfl⟩ = 0x46495348

/-- 10_state.md R27 and 20_memory.md R52: key byte n is bits 31-8(n mod 4) : 24-8(n mod 4) of KEY(n div 4); a key loaded
big-endian into KEY0, KEY1, ... is read as its own bytes, whatever the positions past its end hold; and R52's example. -/
def Obligations.LoadedKeyBytesAreRead : Prop :=
  (∀ (keys : Vector Word 14) (n : Nat) (h : n < 56),
    keyByte keys n = .ok ((keys[n / 4]'(by omega)).extractLsb' (24 - 8 * (n % 4)) 8)) ∧
  (∀ (k : List Byte) (keys : Vector Word 14), k.length ≤ 56 →
    (∀ (j : Fin 14) (c : Fin 4), 4 * j.val + c.val < k.length →
      keys[j].extractLsb' (24 - 8 * c.val) 8 = (keyWordOfBytes k j.val).extractLsb' (24 - 8 * c.val) 8) →
    ∀ (n : Nat) (b : Byte), k[n]? = some b → keyByte keys n = .ok b) ∧
  (∀ k : List Byte, k = (List.range 26).map (fun n => BitVec.ofNat 8 (0x61 + n)) →
    keyWordOfBytes k 0 = 0x61626364 ∧ keyWordOfBytes k 1 = 0x65666768 ∧ keyWordOfBytes k 5 = 0x75767778 ∧
    keyWordOfBytes k 6 = 0x797A0000)

/-! ### The Engine and Reset -/

/-- The frame of the Engine's step: it leaves BUSY = 0; it never changes KEYLEN, the key registers, an error flag, the moves
to come or the Host's last response; only INIT writes P, S and READY, only ENCRYPT and DECRYPT write DL and DR
(42_feistel.md section 6; 41_keyschedule.md section 3). -/
def Obligations.EngineStepFrame : Prop :=
  ∀ s t : State, engineStep s = .next t →
    t.pend = .none ∧ t.keylen = s.keylen ∧ t.keys = s.keys ∧ t.errs = s.errs ∧ t.events = s.events ∧ t.resp = s.resp ∧
    (s.pend ≠ .init → t.tables = s.tables ∧ t.ready = s.ready) ∧
    (s.pend ≠ .encrypt → s.pend ≠ .decrypt → t.dl = s.dl ∧ t.dr = s.dr) ∧
    (s.pend = .none → t = s)

/-- 10_state.md R28: STATUS.BUSY is 1 exactly when PEND is not none; BUSY goes to 1 exactly in the Host step that accepts a
command, and to 0 only in the Engine's step or on Reset. -/
def Obligations.BusyTransitions : Prop :=
  (∀ s : State, s.status.getLsbD 0 = true ↔ s.pend ≠ .none) ∧
  (∀ s t : State, step s = .next t → s.pend = .none →
    (t.pend ≠ .none ↔ ∃ w rest, s.events = .host (.write 0x00 4 w) :: rest ∧
      ((w = 1 ∧ 1 ≤ s.keylen.toNat ∧ s.keylen.toNat ≤ 56) ∨ ((w = 2 ∨ w = 3) ∧ s.ready = true)))) ∧
  (∀ s t : State, step s = .next t → s.pend ≠ .none →
    (t.pend = .none ↔ s.events = [] ∨ (∃ rest, s.events = .engine :: rest) ∨ ∃ rest, s.events = .reset :: rest))

/-- 10_state.md R29: READY goes to 0 exactly on Reset and when an INIT is accepted, and to 1 exactly in the Engine's step that
completes an INIT. -/
def Obligations.ReadyTransitions : Prop :=
  ∀ s t : State, step s = .next t →
    (s.ready = true → (t.ready = false ↔
      (∃ rest, s.events = .reset :: rest) ∨
      (s.pend = .none ∧ 1 ≤ s.keylen.toNat ∧ s.keylen.toNat ≤ 56 ∧
        ∃ rest, s.events = .host (.write 0x00 4 1) :: rest))) ∧
    (s.ready = false → (t.ready = true ↔
      s.pend = .init ∧ (s.events = [] ∨ ∃ rest, s.events = .engine :: rest)))

/-- P and S change only in the Engine's step of an INIT, or at Reset (10_state.md section 4; 41_keyschedule.md R131 to R135
say what INIT leaves). -/
def Obligations.TablesChangeOnlyByInitOrReset : Prop :=
  ∀ s t : State, step s = .next t → t.tables ≠ s.tables →
    (s.pend = .init ∧ (s.events = [] ∨ ∃ rest, s.events = .engine :: rest)) ∨ ∃ rest, s.events = .reset :: rest

/-- The Engine's working registers cannot be observed: changing them changes no outcome and no other field of the next state
(10_state.md section 6; log 5). That a read of DL or DR while BUSY = 1 answers the same in both is the model's choice: free
values at one count are equal (log 4). The faults and the refusal are the model's (logs 6 to 9). -/
def Obligations.WorkingRegistersAreUnobservable : Prop :=
  ∀ (s : State) (w : EngineRegs),
    (∀ t, step s = .next t → ∃ w', step { s with work := w } = .next { t with work := w' }) ∧
    (∀ f, step s = .fault f → step { s with work := w } = .fault f) ∧
    (∀ r, step s = .refused r → step { s with work := w } = .refused r)

/-- 10_state.md R40: the state after a Reset in any state, and the model's reset state. -/
def Obligations.ResetValues : Prop :=
  (∀ (s : State) (rest : List Event), s.events = .reset :: rest →
    ∃ t, step s = .next t ∧ t.dl = 0 ∧ t.dr = 0 ∧ t.keylen = 0 ∧ (∀ j : Fin 14, t.keys[j] = 0) ∧ t.status = 0 ∧
      t.pend = .none ∧ (∀ i : Fin 18, t.tables.p[i] = none) ∧
      (∀ (b : Fin 4) (x : Fin 256), t.tables.s[b][x] = none)) ∧
  (State.reset.dl = 0 ∧ State.reset.dr = 0 ∧ State.reset.keylen = 0 ∧ (∀ j : Fin 14, State.reset.keys[j] = 0) ∧
    State.reset.status = 0 ∧ State.reset.pend = .none ∧ (∀ i : Fin 18, State.reset.tables.p[i] = none) ∧
    (∀ (b : Fin 4) (x : Fin 256), State.reset.tables.s[b][x] = none))

/-- After Reset KSFC is Uninitialized: the next ENCRYPT or DECRYPT sets ERR_NOINIT and nothing else of KSFC
(70_reset_and_hazards.md section 1). -/
def Obligations.TransformAfterResetSetsErrNoinit : Prop :=
  ∀ (s t : State) (w : Word) (rest : List Event), (w = 2 ∨ w = 3) →
    s.events = .reset :: cmdWrite w :: rest → step s = .next t →
    step t = .next
      { t with errs := { t.errs with errNoinit := true }, events := rest, resp := some .written }

/-! ### Invariants, safety and progress -/

/-- The reset state meets the invariant. -/
def Obligations.ResetMeetsInvariant : Prop := State.reset.Inv

/-- Every step keeps the invariant: READY = 1 only with valued tables, a transform pends only while READY = 1, an INIT pends
only with READY = 0 and a legal KEYLEN (10_state.md section 3; 40_command_interface.md section 1). -/
def Obligations.StepKeepsInvariant : Prop :=
  ∀ s t : State, s.Inv → step s = .next t → t.Inv

/-- READY = 1 only while P and S are the complete schedule of a legal key, and P and S are never partly built: every step
keeps both (10_state.md section 3). -/
def Obligations.ReadyMeansCompleteSchedule : Prop :=
  ∀ s t : State, s.Inv → (s.ready = true → s.tables.IsSchedule) → s.tables.Whole → step s = .next t →
    (t.ready = true → t.tables.IsSchedule) ∧ t.tables.Whole

/-- From a state that meets the invariant no step reads a table word without a value or a key byte past the buffer, whatever
the agents do, and a step whose move the spec defines answers a next state (00_scope.md section 5). -/
def Obligations.NoStepReadsUndefinedWords : Prop :=
  ∀ s : State, s.Inv →
    step s ≠ .fault .noTableValue ∧ step s ≠ .fault .noKeyByte ∧
    (s.LegalSchedule → ∃ t, step s = .next t ∧ t.LegalSchedule)

/-- Progress: from a state that meets the invariant, under a schedule of moves the spec defines, the machine runs through
all of them and one step more, and then no operation pends. With no Reset among the moves, an operation pending at the start
waits until its Engine's step: the Host's accesses change only the flags, the response and the count of free values, and the
step gives the operation's result on the operands as they stood (70_reset_and_hazards.md section 4;
40_command_interface.md section 1). A Reset aborts it instead. That the Engine moves when the schedule is exhausted is the
model's form of weak fairness (log 3). -/
def Obligations.EveryAcceptedOperationCompletes : Prop :=
  ∀ s : State, s.Inv → s.LegalSchedule →
    (∃ t : State, Host.Core.run Sys2Proof.core (s.events.length + 1) s = .next t ∧
      t.pend = .none ∧ t.events = [] ∧ t.Inv) ∧
    (s.pend ≠ .none → Event.reset ∉ s.events →
      ∃ (k : Nat) (u v : State), k ≤ s.events.length ∧ Host.Core.run Sys2Proof.core k s = .next u ∧
        u = { s with errs := u.errs, events := u.events, resp := u.resp, draws := u.draws } ∧
        (u.events = [] ∨ ∃ rest, u.events = .engine :: rest) ∧
        step u = .next v ∧ engineStep { u with events := u.events.tail } = .next v ∧ v.pend = .none ∧
        (s.pend = .init → buildSchedule s.keys s.keylen.toNat s.tables = .ok v.tables ∧ v.ready = true) ∧
        (s.pend = .encrypt → encipher s.tables s.dl s.dr = .ok (v.dl, v.dr)) ∧
        (s.pend = .decrypt → decipher s.tables s.dl s.dr = .ok (v.dl, v.dr)))
end

