-- ==== Sys2Proof/Laws/Tables.lean ====
section
/-! SUPPORT. The laws of the table operations (Machine/Ops.lean): read after write, what a write leaves alone, and that
writes keep every word valued. -/

namespace Sys2Proof.Machine

theorem readWord_eq_ok {o : Option Word} {w : Word} : readWord o = .ok w ↔ o = some w := by
  cases o <;> simp [readWord]

theorem readWord_eq_error {o : Option Word} {f : Fault} :
    readWord o = .error f ↔ o = none ∧ f = .noTableValue := by
  cases o <;> simp [readWord, eq_comm]

/-! ### Read after write -/

@[simp] theorem Tables.readP_writeP_same (t : Tables) (i : Fin 18) (v : Word) :
    (t.writeP i v).readP i = .ok v := by
  simp [Tables.readP, Tables.writeP, readWord]

theorem Tables.readP_writeP_other (t : Tables) {i j : Fin 18} (v : Word) (h : i ≠ j) :
    (t.writeP i v).readP j = t.readP j := by
  have : (i : Nat) ≠ j := fun e => h (Fin.ext e)
  simp [Tables.readP, Tables.writeP, this]

@[simp] theorem Tables.readS_writeP (t : Tables) (i : Fin 18) (v : Word) (b : Fin 4) (x : Byte) :
    (t.writeP i v).readS b x = t.readS b x := rfl

@[simp] theorem Tables.readP_writeS (t : Tables) (b : Fin 4) (x : Fin 256) (v : Word) (i : Fin 18) :
    (t.writeS b x v).readP i = t.readP i := rfl

theorem Tables.readS_writeS_same (t : Tables) (b : Fin 4) (x : Byte) (v : Word) :
    (t.writeS b ⟨x.toNat, x.isLt⟩ v).readS b x = .ok v := by
  simp [Tables.readS, Tables.writeS, readWord]

theorem Tables.readS_writeS_other (t : Tables) {b c : Fin 4} {x : Fin 256} {y : Byte} (v : Word)
    (h : b ≠ c ∨ x.val ≠ y.toNat) : (t.writeS b x v).readS c y = t.readS c y := by
  by_cases hb : b = c
  · subst hb
    have hx : x.val ≠ y.toNat := h.resolve_left (fun hn => hn rfl)
    simp [Tables.readS, Tables.writeS, hx]
  · have : (b : Nat) ≠ c := fun e => hb (Fin.ext e)
    simp [Tables.readS, Tables.writeS, this]

/-! ### Tables whose every word holds a value -/

theorem Tables.Full.readP_ok {t : Tables} (h : t.Full) (i : Fin 18) : ∃ w, t.readP i = .ok w := by
  obtain ⟨w, hw⟩ := Option.isSome_iff_exists.mp (h.1 i)
  exact ⟨w, readWord_eq_ok.mpr hw⟩

theorem Tables.Full.readS_ok {t : Tables} (h : t.Full) (b : Fin 4) (x : Byte) : ∃ w, t.readS b x = .ok w := by
  obtain ⟨w, hw⟩ := Option.isSome_iff_exists.mp (h.2 b ⟨x.toNat, x.isLt⟩)
  exact ⟨w, readWord_eq_ok.mpr hw⟩

theorem Tables.Full.writeP {t : Tables} (h : t.Full) (i : Fin 18) (v : Word) : (t.writeP i v).Full := by
  refine ⟨fun j => ?_, h.2⟩
  by_cases hij : (i : Nat) = j
  · simp [Tables.writeP, hij]
  · simpa [Tables.writeP, Vector.getElem_set, hij] using h.1 j

theorem Tables.Full.writeS {t : Tables} (h : t.Full) (b : Fin 4) (x : Fin 256) (v : Word) :
    (t.writeS b x v).Full := by
  refine ⟨h.1, fun c y => ?_⟩
  by_cases hb : (b : Nat) = c
  · by_cases hx : (x : Nat) = y
    · simp [Tables.writeS, hb, hx]
    · simpa [Tables.writeS, Vector.getElem_set, hb, hx] using h.2 c y
  · simpa [Tables.writeS, Vector.getElem_set, hb] using h.2 c y

theorem Tables.Full.writeWord {t : Tables} (h : t.Full) (n : Nat) (v : Word) : (t.writeWord n v).Full := by
  unfold Tables.writeWord
  split
  · exact h.writeP _ _
  · split
    · exact h.writeS _ _ _
    · exact h

/-! ### The constant tables -/

theorem valued_isSome {n : Nat} (ws : List Word) (h : ws.length = n) (i : Fin n) :
    (valued ws h)[i].isSome = true := by
  simp [valued, vectorOfList]

theorem romTables_full : romTables.Full := by
  refine ⟨fun i => valued_isSome romP romP_length i, fun b x => ?_⟩
  match b with
  | 0 => exact valued_isSome romS0 romS0_length x
  | 1 => exact valued_isSome romS1 romS1_length x
  | 2 => exact valued_isSome romS2 romS2_length x
  | 3 => exact valued_isSome romS3 romS3_length x

theorem ksLoad_full (old : Tables) : (ksLoad old).Full := romTables_full

end Sys2Proof.Machine
end

