-- ==== Sys2Proof/Laws/Cipher.lean ====
section
/-! SUPPORT. The cipher's functions are total on tables whose every word holds a value, and so is the key schedule of a
legal key: what the Engine's step needs in order to complete (00_scope.md R13). -/

namespace Sys2Proof.Machine

/-- The result of a `bind` that succeeds comes from a first part that succeeds. -/
theorem bind_eq_ok {α β : Type} {x : Except Fault α} {f : α → Except Fault β} {b : β} :
    (x >>= f) = .ok b ↔ ∃ a, x = .ok a ∧ f a = .ok b := by
  cases x with
  | error e => simp [bind, Except.bind]
  | ok a => simp [bind, Except.bind]

@[simp] theorem ok_bind {α β : Type} (a : α) (f : α → Except Fault β) : (Except.ok a >>= f) = f a := rfl

@[simp] theorem error_bind {α β : Type} (e : Fault) (f : α → Except Fault β) :
    ((Except.error e : Except Fault α) >>= f) = .error e := rfl

theorem Tables.Full.roundF_ok {t : Tables} (h : t.Full) (x : Word) : ∃ w, roundF t x = .ok w := by
  obtain ⟨a, ha⟩ := h.readS_ok 0 (wordByte x 0)
  obtain ⟨b, hb⟩ := h.readS_ok 1 (wordByte x 1)
  obtain ⟨c, hc⟩ := h.readS_ok 2 (wordByte x 2)
  obtain ⟨d, hd⟩ := h.readS_ok 3 (wordByte x 3)
  exact ⟨((a + b) ^^^ c) + d, by simp only [roundF, ha, hb, hc, hd, ok_bind]⟩

theorem Tables.Full.feistelRound_ok {t : Tables} (h : t.Full) (p : Word) (lr : Word × Word) :
    ∃ lr', feistelRound t p lr = .ok lr' := by
  obtain ⟨f, hf⟩ := h.roundF_ok (lr.1 ^^^ p)
  exact ⟨(lr.2 ^^^ f, lr.1 ^^^ p), by simp only [feistelRound, hf, ok_bind]⟩

theorem Tables.Full.feistelRounds_ok {t : Tables} (h : t.Full) (is : List (Fin 18)) (lr : Word × Word) :
    ∃ lr', feistelRounds t is lr = .ok lr' := by
  induction is generalizing lr with
  | nil => exact ⟨lr, rfl⟩
  | cons i is ih =>
    obtain ⟨p, hp⟩ := h.readP_ok i
    obtain ⟨lr', hr⟩ := h.feistelRound_ok p lr
    obtain ⟨out, ho⟩ := ih lr'
    exact ⟨out, by simp only [feistelRounds, hp, hr, ho, ok_bind]⟩

theorem Tables.Full.whiten_ok {t : Tables} (h : t.Full) (ir il : Fin 18) (lr : Word × Word) :
    ∃ lr', whiten t ir il lr = .ok lr' := by
  obtain ⟨r, hr⟩ := h.readP_ok ir
  obtain ⟨l, hl⟩ := h.readP_ok il
  exact ⟨(lr.2 ^^^ l, lr.1 ^^^ r), by simp only [whiten, hr, hl, ok_bind]⟩

/-- Encipher completes on valued tables. -/
theorem Tables.Full.encipher_ok {t : Tables} (h : t.Full) (l r : Word) : ∃ lr, encipher t l r = .ok lr := by
  obtain ⟨m, hm⟩ := h.feistelRounds_ok [0, 1, 2, 3, 4, 5, 6, 7, 8, 9, 10, 11, 12, 13, 14, 15] (l, r)
  obtain ⟨out, ho⟩ := h.whiten_ok 16 17 m
  exact ⟨out, by simp only [encipher, hm, ho, ok_bind]⟩

/-- Decipher completes on valued tables. -/
theorem Tables.Full.decipher_ok {t : Tables} (h : t.Full) (l r : Word) : ∃ lr, decipher t l r = .ok lr := by
  obtain ⟨m, hm⟩ := h.feistelRounds_ok [17, 16, 15, 14, 13, 12, 11, 10, 9, 8, 7, 6, 5, 4, 3, 2] (l, r)
  obtain ⟨out, ho⟩ := h.whiten_ok 1 0 m
  exact ⟨out, by simp only [decipher, hm, ho, ok_bind]⟩

/-! ### The key XOR -/

theorem keyByte_ok (keys : Vector Word 14) {n : Nat} (h : n < 56) : ∃ b, keyByte keys n = .ok b :=
  ⟨_, by rw [keyByte, dif_pos h]⟩

/-- A key byte is drawn or the position is past the buffer. -/
theorem keyByte_error {keys : Vector Word 14} {n : Nat} {f : Fault} (h : keyByte keys n = .error f) :
    56 ≤ n ∧ f = .noKeyByte := by
  unfold keyByte at h
  split at h
  · cases h
  · cases h
    exact ⟨by omega, rfl⟩

theorem drawGroup_ok (keys : Vector Word 14) {len : Nat} (h1 : 1 ≤ len) (h56 : len ≤ 56) (k : Nat) {j : Nat}
    (hj : j < len) (d : Word) : ∃ d' j', drawGroup keys len k j d = .ok (d', j') ∧ j' < len := by
  induction k generalizing j d with
  | zero => exact ⟨d, j, rfl, hj⟩
  | succ k ih =>
    obtain ⟨b, hb⟩ := keyByte_ok keys (show j < 56 by omega)
    obtain ⟨d', j', hd, hj'⟩ := ih (Nat.mod_lt (j + 1) (by omega)) ((d <<< 8) ||| b.setWidth 32)
    exact ⟨d', j', by simp only [drawGroup, hb, ok_bind, hd], hj'⟩

theorem keyXorFrom_ok (keys : Vector Word 14) {len : Nat} (h1 : 1 ≤ len) (h56 : len ≤ 56) (is : List (Fin 18))
    {j : Nat} (hj : j < len) {t : Tables} (ht : t.Full) :
    ∃ t', keyXorFrom keys len is j t = .ok t' ∧ t'.Full := by
  induction is generalizing j t with
  | nil => exact ⟨t, rfl, ht⟩
  | cons i is ih =>
    obtain ⟨d, j', hd, hj'⟩ := drawGroup_ok keys h1 h56 4 hj 0
    obtain ⟨p, hp⟩ := ht.readP_ok i
    obtain ⟨t', h', hf⟩ := ih hj' (ht.writeP i (p ^^^ d))
    exact ⟨t', by simp only [keyXorFrom, hd, hp, ok_bind, h'], hf⟩

/-! ### The expansion and the whole schedule -/

theorem expandStep_ok {x : Expansion} (h : x.tables.Full) : ∃ y, expandStep x = .ok y ∧ y.tables.Full := by
  obtain ⟨lr, hlr⟩ := h.encipher_ok x.al x.ar
  exact ⟨_, by simp only [expandStep, hlr, ok_bind]; rfl, (h.writeWord _ _).writeWord _ _⟩

theorem expandSteps_ok (k : Nat) {x : Expansion} (h : x.tables.Full) :
    ∃ y, expandSteps k x = .ok y ∧ y.tables.Full := by
  induction k generalizing x with
  | zero => exact ⟨x, rfl, h⟩
  | succ k ih =>
    obtain ⟨y, hy, hf⟩ := expandStep_ok h
    obtain ⟨z, hz, hzf⟩ := ih hf
    exact ⟨z, by simp only [expandSteps, hy, ok_bind, hz], hzf⟩

theorem keylenLegal_iff {len : Byte} : keylenLegal len = true ↔ 1 ≤ len.toNat ∧ len.toNat ≤ 56 := by
  simp [keylenLegal]

/-- The schedule of a legal key is built, and every word of it holds a value (41_keyschedule.md R123). -/
theorem buildSchedule_ok (keys : Vector Word 14) {len : Nat} (h1 : 1 ≤ len) (h56 : len ≤ 56) (old : Tables) :
    ∃ t, buildSchedule keys len old = .ok t ∧ t.Full := by
  obtain ⟨t, ht, hf⟩ := keyXorFrom_ok keys h1 h56
    [0, 1, 2, 3, 4, 5, 6, 7, 8, 9, 10, 11, 12, 13, 14, 15, 16, 17] (show 0 < len by omega) (ksLoad_full old)
  obtain ⟨x, hx, hxf⟩ := expandSteps_ok 9 (x := { tables := t, al := 0, ar := 0, index := 0 }) hf
  obtain ⟨y, hy, hyf⟩ := expandSteps_ok 512 hxf
  exact ⟨y.tables, by simp only [buildSchedule, ksKeyXor, ksExpand, ht, hx, hy, ok_bind], hyf⟩

/-- The old tables do not enter the schedule (41_keyschedule.md R124). -/
theorem buildSchedule_old (keys : Vector Word 14) (len : Nat) (old old' : Tables) :
    buildSchedule keys len old = buildSchedule keys len old' := rfl

end Sys2Proof.Machine
end

