-- ==== Sys2Proof/Laws/State.lean ====
section
/-! SUPPORT. One lemma per field of State per named update, so that no proof unfolds a record update. -/

namespace Sys2Proof.Machine

variable (s : State)

/-! ### setErr -/

@[simp] theorem State.setErr_dl (f : ErrFlag) : (s.setErr f).dl = s.dl := rfl
@[simp] theorem State.setErr_dr (f : ErrFlag) : (s.setErr f).dr = s.dr := rfl
@[simp] theorem State.setErr_keylen (f : ErrFlag) : (s.setErr f).keylen = s.keylen := rfl
@[simp] theorem State.setErr_keys (f : ErrFlag) : (s.setErr f).keys = s.keys := rfl
@[simp] theorem State.setErr_ready (f : ErrFlag) : (s.setErr f).ready = s.ready := rfl
@[simp] theorem State.setErr_errs (f : ErrFlag) : (s.setErr f).errs = s.errs.set f := rfl
@[simp] theorem State.setErr_pend (f : ErrFlag) : (s.setErr f).pend = s.pend := rfl
@[simp] theorem State.setErr_tables (f : ErrFlag) : (s.setErr f).tables = s.tables := rfl
@[simp] theorem State.setErr_work (f : ErrFlag) : (s.setErr f).work = s.work := rfl
@[simp] theorem State.setErr_events (f : ErrFlag) : (s.setErr f).events = s.events := rfl
@[simp] theorem State.setErr_resp (f : ErrFlag) : (s.setErr f).resp = s.resp := rfl
@[simp] theorem State.setErr_draws (f : ErrFlag) : (s.setErr f).draws = s.draws := rfl

/-! ### clearErrs -/

@[simp] theorem State.clearErrs_dl (v : Word) : (s.clearErrs v).dl = s.dl := rfl
@[simp] theorem State.clearErrs_dr (v : Word) : (s.clearErrs v).dr = s.dr := rfl
@[simp] theorem State.clearErrs_keylen (v : Word) : (s.clearErrs v).keylen = s.keylen := rfl
@[simp] theorem State.clearErrs_keys (v : Word) : (s.clearErrs v).keys = s.keys := rfl
@[simp] theorem State.clearErrs_ready (v : Word) : (s.clearErrs v).ready = s.ready := rfl
@[simp] theorem State.clearErrs_errs (v : Word) : (s.clearErrs v).errs = s.errs.clearBy v := rfl
@[simp] theorem State.clearErrs_pend (v : Word) : (s.clearErrs v).pend = s.pend := rfl
@[simp] theorem State.clearErrs_tables (v : Word) : (s.clearErrs v).tables = s.tables := rfl
@[simp] theorem State.clearErrs_work (v : Word) : (s.clearErrs v).work = s.work := rfl
@[simp] theorem State.clearErrs_events (v : Word) : (s.clearErrs v).events = s.events := rfl
@[simp] theorem State.clearErrs_resp (v : Word) : (s.clearErrs v).resp = s.resp := rfl
@[simp] theorem State.clearErrs_draws (v : Word) : (s.clearErrs v).draws = s.draws := rfl

/-! ### accept -/

@[simp] theorem State.accept_dl (p : Pend) : (s.accept p).dl = s.dl := rfl
@[simp] theorem State.accept_dr (p : Pend) : (s.accept p).dr = s.dr := rfl
@[simp] theorem State.accept_keylen (p : Pend) : (s.accept p).keylen = s.keylen := rfl
@[simp] theorem State.accept_keys (p : Pend) : (s.accept p).keys = s.keys := rfl
@[simp] theorem State.accept_ready (p : Pend) : (s.accept p).ready = s.ready := rfl
@[simp] theorem State.accept_errs (p : Pend) : (s.accept p).errs = s.errs := rfl
@[simp] theorem State.accept_pend (p : Pend) : (s.accept p).pend = p := rfl
@[simp] theorem State.accept_tables (p : Pend) : (s.accept p).tables = s.tables := rfl
@[simp] theorem State.accept_work (p : Pend) : (s.accept p).work = s.work := rfl
@[simp] theorem State.accept_events (p : Pend) : (s.accept p).events = s.events := rfl
@[simp] theorem State.accept_resp (p : Pend) : (s.accept p).resp = s.resp := rfl
@[simp] theorem State.accept_draws (p : Pend) : (s.accept p).draws = s.draws := rfl

/-! ### clearReady -/

@[simp] theorem State.clearReady_dl : (s.clearReady).dl = s.dl := rfl
@[simp] theorem State.clearReady_dr : (s.clearReady).dr = s.dr := rfl
@[simp] theorem State.clearReady_keylen : (s.clearReady).keylen = s.keylen := rfl
@[simp] theorem State.clearReady_keys : (s.clearReady).keys = s.keys := rfl
@[simp] theorem State.clearReady_ready : (s.clearReady).ready = false := rfl
@[simp] theorem State.clearReady_errs : (s.clearReady).errs = s.errs := rfl
@[simp] theorem State.clearReady_pend : (s.clearReady).pend = s.pend := rfl
@[simp] theorem State.clearReady_tables : (s.clearReady).tables = s.tables := rfl
@[simp] theorem State.clearReady_work : (s.clearReady).work = s.work := rfl
@[simp] theorem State.clearReady_events : (s.clearReady).events = s.events := rfl
@[simp] theorem State.clearReady_resp : (s.clearReady).resp = s.resp := rfl
@[simp] theorem State.clearReady_draws : (s.clearReady).draws = s.draws := rfl

/-! ### writeBlock -/

@[simp] theorem State.writeBlock_dl (lr : Word × Word) : (s.writeBlock lr).dl = lr.1 := rfl
@[simp] theorem State.writeBlock_dr (lr : Word × Word) : (s.writeBlock lr).dr = lr.2 := rfl
@[simp] theorem State.writeBlock_keylen (lr : Word × Word) : (s.writeBlock lr).keylen = s.keylen := rfl
@[simp] theorem State.writeBlock_keys (lr : Word × Word) : (s.writeBlock lr).keys = s.keys := rfl
@[simp] theorem State.writeBlock_ready (lr : Word × Word) : (s.writeBlock lr).ready = s.ready := rfl
@[simp] theorem State.writeBlock_errs (lr : Word × Word) : (s.writeBlock lr).errs = s.errs := rfl
@[simp] theorem State.writeBlock_pend (lr : Word × Word) : (s.writeBlock lr).pend = s.pend := rfl
@[simp] theorem State.writeBlock_tables (lr : Word × Word) : (s.writeBlock lr).tables = s.tables := rfl
@[simp] theorem State.writeBlock_work (lr : Word × Word) : (s.writeBlock lr).work = s.work := rfl
@[simp] theorem State.writeBlock_events (lr : Word × Word) : (s.writeBlock lr).events = s.events := rfl
@[simp] theorem State.writeBlock_resp (lr : Word × Word) : (s.writeBlock lr).resp = s.resp := rfl
@[simp] theorem State.writeBlock_draws (lr : Word × Word) : (s.writeBlock lr).draws = s.draws := rfl

/-! ### installSchedule -/

@[simp] theorem State.installSchedule_dl (t : Tables) : (s.installSchedule t).dl = s.dl := rfl
@[simp] theorem State.installSchedule_dr (t : Tables) : (s.installSchedule t).dr = s.dr := rfl
@[simp] theorem State.installSchedule_keylen (t : Tables) : (s.installSchedule t).keylen = s.keylen := rfl
@[simp] theorem State.installSchedule_keys (t : Tables) : (s.installSchedule t).keys = s.keys := rfl
@[simp] theorem State.installSchedule_ready (t : Tables) : (s.installSchedule t).ready = true := rfl
@[simp] theorem State.installSchedule_errs (t : Tables) : (s.installSchedule t).errs = s.errs := rfl
@[simp] theorem State.installSchedule_pend (t : Tables) : (s.installSchedule t).pend = s.pend := rfl
@[simp] theorem State.installSchedule_tables (t : Tables) : (s.installSchedule t).tables = t := rfl
@[simp] theorem State.installSchedule_work (t : Tables) : (s.installSchedule t).work = s.work := rfl
@[simp] theorem State.installSchedule_events (t : Tables) : (s.installSchedule t).events = s.events := rfl
@[simp] theorem State.installSchedule_resp (t : Tables) : (s.installSchedule t).resp = s.resp := rfl
@[simp] theorem State.installSchedule_draws (t : Tables) : (s.installSchedule t).draws = s.draws := rfl

/-! ### writeDl -/

@[simp] theorem State.writeDl_dl (v : Word) : (s.writeDl v).dl = v := rfl
@[simp] theorem State.writeDl_dr (v : Word) : (s.writeDl v).dr = s.dr := rfl
@[simp] theorem State.writeDl_keylen (v : Word) : (s.writeDl v).keylen = s.keylen := rfl
@[simp] theorem State.writeDl_keys (v : Word) : (s.writeDl v).keys = s.keys := rfl
@[simp] theorem State.writeDl_ready (v : Word) : (s.writeDl v).ready = s.ready := rfl
@[simp] theorem State.writeDl_errs (v : Word) : (s.writeDl v).errs = s.errs := rfl
@[simp] theorem State.writeDl_pend (v : Word) : (s.writeDl v).pend = s.pend := rfl
@[simp] theorem State.writeDl_tables (v : Word) : (s.writeDl v).tables = s.tables := rfl
@[simp] theorem State.writeDl_work (v : Word) : (s.writeDl v).work = s.work := rfl
@[simp] theorem State.writeDl_events (v : Word) : (s.writeDl v).events = s.events := rfl
@[simp] theorem State.writeDl_resp (v : Word) : (s.writeDl v).resp = s.resp := rfl
@[simp] theorem State.writeDl_draws (v : Word) : (s.writeDl v).draws = s.draws := rfl

/-! ### writeDr -/

@[simp] theorem State.writeDr_dl (v : Word) : (s.writeDr v).dl = s.dl := rfl
@[simp] theorem State.writeDr_dr (v : Word) : (s.writeDr v).dr = v := rfl
@[simp] theorem State.writeDr_keylen (v : Word) : (s.writeDr v).keylen = s.keylen := rfl
@[simp] theorem State.writeDr_keys (v : Word) : (s.writeDr v).keys = s.keys := rfl
@[simp] theorem State.writeDr_ready (v : Word) : (s.writeDr v).ready = s.ready := rfl
@[simp] theorem State.writeDr_errs (v : Word) : (s.writeDr v).errs = s.errs := rfl
@[simp] theorem State.writeDr_pend (v : Word) : (s.writeDr v).pend = s.pend := rfl
@[simp] theorem State.writeDr_tables (v : Word) : (s.writeDr v).tables = s.tables := rfl
@[simp] theorem State.writeDr_work (v : Word) : (s.writeDr v).work = s.work := rfl
@[simp] theorem State.writeDr_events (v : Word) : (s.writeDr v).events = s.events := rfl
@[simp] theorem State.writeDr_resp (v : Word) : (s.writeDr v).resp = s.resp := rfl
@[simp] theorem State.writeDr_draws (v : Word) : (s.writeDr v).draws = s.draws := rfl

/-! ### writeKeylen -/

@[simp] theorem State.writeKeylen_dl (v : Word) : (s.writeKeylen v).dl = s.dl := rfl
@[simp] theorem State.writeKeylen_dr (v : Word) : (s.writeKeylen v).dr = s.dr := rfl
@[simp] theorem State.writeKeylen_keylen (v : Word) : (s.writeKeylen v).keylen = v.extractLsb' 0 8 := rfl
@[simp] theorem State.writeKeylen_keys (v : Word) : (s.writeKeylen v).keys = s.keys := rfl
@[simp] theorem State.writeKeylen_ready (v : Word) : (s.writeKeylen v).ready = s.ready := rfl
@[simp] theorem State.writeKeylen_errs (v : Word) : (s.writeKeylen v).errs = s.errs := rfl
@[simp] theorem State.writeKeylen_pend (v : Word) : (s.writeKeylen v).pend = s.pend := rfl
@[simp] theorem State.writeKeylen_tables (v : Word) : (s.writeKeylen v).tables = s.tables := rfl
@[simp] theorem State.writeKeylen_work (v : Word) : (s.writeKeylen v).work = s.work := rfl
@[simp] theorem State.writeKeylen_events (v : Word) : (s.writeKeylen v).events = s.events := rfl
@[simp] theorem State.writeKeylen_resp (v : Word) : (s.writeKeylen v).resp = s.resp := rfl
@[simp] theorem State.writeKeylen_draws (v : Word) : (s.writeKeylen v).draws = s.draws := rfl

/-! ### writeKey -/

@[simp] theorem State.writeKey_dl (j : Fin 14) (v : Word) : (s.writeKey j v).dl = s.dl := rfl
@[simp] theorem State.writeKey_dr (j : Fin 14) (v : Word) : (s.writeKey j v).dr = s.dr := rfl
@[simp] theorem State.writeKey_keylen (j : Fin 14) (v : Word) : (s.writeKey j v).keylen = s.keylen := rfl
@[simp] theorem State.writeKey_keys (j : Fin 14) (v : Word) : (s.writeKey j v).keys = s.keys.set j v := rfl
@[simp] theorem State.writeKey_ready (j : Fin 14) (v : Word) : (s.writeKey j v).ready = s.ready := rfl
@[simp] theorem State.writeKey_errs (j : Fin 14) (v : Word) : (s.writeKey j v).errs = s.errs := rfl
@[simp] theorem State.writeKey_pend (j : Fin 14) (v : Word) : (s.writeKey j v).pend = s.pend := rfl
@[simp] theorem State.writeKey_tables (j : Fin 14) (v : Word) : (s.writeKey j v).tables = s.tables := rfl
@[simp] theorem State.writeKey_work (j : Fin 14) (v : Word) : (s.writeKey j v).work = s.work := rfl
@[simp] theorem State.writeKey_events (j : Fin 14) (v : Word) : (s.writeKey j v).events = s.events := rfl
@[simp] theorem State.writeKey_resp (j : Fin 14) (v : Word) : (s.writeKey j v).resp = s.resp := rfl
@[simp] theorem State.writeKey_draws (j : Fin 14) (v : Word) : (s.writeKey j v).draws = s.draws := rfl

/-! ### respond -/

@[simp] theorem State.respond_dl (x : Response) : (s.respond x).dl = s.dl := rfl
@[simp] theorem State.respond_dr (x : Response) : (s.respond x).dr = s.dr := rfl
@[simp] theorem State.respond_keylen (x : Response) : (s.respond x).keylen = s.keylen := rfl
@[simp] theorem State.respond_keys (x : Response) : (s.respond x).keys = s.keys := rfl
@[simp] theorem State.respond_ready (x : Response) : (s.respond x).ready = s.ready := rfl
@[simp] theorem State.respond_errs (x : Response) : (s.respond x).errs = s.errs := rfl
@[simp] theorem State.respond_pend (x : Response) : (s.respond x).pend = s.pend := rfl
@[simp] theorem State.respond_tables (x : Response) : (s.respond x).tables = s.tables := rfl
@[simp] theorem State.respond_work (x : Response) : (s.respond x).work = s.work := rfl
@[simp] theorem State.respond_events (x : Response) : (s.respond x).events = s.events := rfl
@[simp] theorem State.respond_resp (x : Response) : (s.respond x).resp = some x := rfl
@[simp] theorem State.respond_draws (x : Response) : (s.respond x).draws = s.draws := rfl

/-! ### before -/

@[simp] theorem State.before_dl (e : Event) : (s.before e).dl = s.dl := rfl
@[simp] theorem State.before_dr (e : Event) : (s.before e).dr = s.dr := rfl
@[simp] theorem State.before_keylen (e : Event) : (s.before e).keylen = s.keylen := rfl
@[simp] theorem State.before_keys (e : Event) : (s.before e).keys = s.keys := rfl
@[simp] theorem State.before_ready (e : Event) : (s.before e).ready = s.ready := rfl
@[simp] theorem State.before_errs (e : Event) : (s.before e).errs = s.errs := rfl
@[simp] theorem State.before_pend (e : Event) : (s.before e).pend = s.pend := rfl
@[simp] theorem State.before_tables (e : Event) : (s.before e).tables = s.tables := rfl
@[simp] theorem State.before_work (e : Event) : (s.before e).work = s.work := rfl
@[simp] theorem State.before_events (e : Event) : (s.before e).events = e :: s.events := rfl
@[simp] theorem State.before_resp (e : Event) : (s.before e).resp = s.resp := rfl
@[simp] theorem State.before_draws (e : Event) : (s.before e).draws = s.draws := rfl

/-! ### drawWork -/

@[simp] theorem State.drawWork_dl : (s.drawWork).dl = s.dl := rfl
@[simp] theorem State.drawWork_dr : (s.drawWork).dr = s.dr := rfl
@[simp] theorem State.drawWork_keylen : (s.drawWork).keylen = s.keylen := rfl
@[simp] theorem State.drawWork_keys : (s.drawWork).keys = s.keys := rfl
@[simp] theorem State.drawWork_ready : (s.drawWork).ready = s.ready := rfl
@[simp] theorem State.drawWork_errs : (s.drawWork).errs = s.errs := rfl
@[simp] theorem State.drawWork_pend : (s.drawWork).pend = s.pend := rfl
@[simp] theorem State.drawWork_tables : (s.drawWork).tables = s.tables := rfl
@[simp] theorem State.drawWork_events : (s.drawWork).events = s.events := rfl
@[simp] theorem State.drawWork_resp : (s.drawWork).resp = s.resp := rfl
@[simp] theorem State.drawWork_draws : (s.drawWork).draws = s.draws + 5 := rfl

/-! ### complete -/

@[simp] theorem State.complete_dl : (s.complete).dl = s.dl := rfl
@[simp] theorem State.complete_dr : (s.complete).dr = s.dr := rfl
@[simp] theorem State.complete_keylen : (s.complete).keylen = s.keylen := rfl
@[simp] theorem State.complete_keys : (s.complete).keys = s.keys := rfl
@[simp] theorem State.complete_ready : (s.complete).ready = s.ready := rfl
@[simp] theorem State.complete_errs : (s.complete).errs = s.errs := rfl
@[simp] theorem State.complete_pend : (s.complete).pend = .none := rfl
@[simp] theorem State.complete_tables : (s.complete).tables = s.tables := rfl
@[simp] theorem State.complete_work : (s.complete).work = s.drawWork.work := rfl
@[simp] theorem State.complete_events : (s.complete).events = s.events := rfl
@[simp] theorem State.complete_resp : (s.complete).resp = s.resp := rfl
@[simp] theorem State.complete_draws : (s.complete).draws = s.draws + 5 := rfl

/-! ### resetStep -/

@[simp] theorem State.resetStep_dl : (s.resetStep).dl = 0 := rfl
@[simp] theorem State.resetStep_dr : (s.resetStep).dr = 0 := rfl
@[simp] theorem State.resetStep_keylen : (s.resetStep).keylen = 0 := rfl
@[simp] theorem State.resetStep_keys : (s.resetStep).keys = Vector.replicate 14 0 := rfl
@[simp] theorem State.resetStep_ready : (s.resetStep).ready = false := rfl
@[simp] theorem State.resetStep_errs : (s.resetStep).errs = ErrFlags.clear := rfl
@[simp] theorem State.resetStep_pend : (s.resetStep).pend = .none := rfl
@[simp] theorem State.resetStep_tables : (s.resetStep).tables = Tables.undefined := rfl
@[simp] theorem State.resetStep_work : (s.resetStep).work = State.reset.work := rfl
@[simp] theorem State.resetStep_events : (s.resetStep).events = s.events := rfl
@[simp] theorem State.resetStep_resp : (s.resetStep).resp = none := rfl
@[simp] theorem State.resetStep_draws : (s.resetStep).draws = s.draws := rfl

end Sys2Proof.Machine
end

