-- ==== Sys2Proof/Laws/Machine.lean ====
section
/-! SUPPORT. What each shared operation and each agent's move can do, said once: claims cite these lemmas instead of
unfolding the step. -/

namespace Sys2Proof.Machine

/-! ### BUSY -/

theorem State.busy_eq_false {s : State} : s.busy = false ↔ s.pend = .none := by
  cases h : s.pend <;> simp [State.busy, h]

theorem State.busy_eq_true {s : State} : s.busy = true ↔ s.pend ≠ .none := by
  cases h : s.pend <;> simp [State.busy, h]

/-! ### Acceptance (40_command_interface.md R100) -/

theorem acceptTransform_busy (p : Pend) {s : State} (h : s.pend ≠ .none) :
    acceptTransform p s = .next (s.setErr .busy) := by
  simp [acceptTransform, State.busy_eq_true.mpr h]

theorem acceptTransform_noinit (p : Pend) {s : State} (h : s.pend = .none) (hr : s.ready = false) :
    acceptTransform p s = .next (s.setErr .noinit) := by
  simp [acceptTransform, State.busy_eq_false.mpr h, hr]

theorem acceptTransform_accepted (p : Pend) {s : State} (h : s.pend = .none) (hr : s.ready = true) :
    acceptTransform p s = .next (s.accept p) := by
  simp [acceptTransform, State.busy_eq_false.mpr h, hr]

theorem execInit_busy {s : State} (h : s.pend ≠ .none) : execInit s = .next (s.setErr .busy) := by
  simp [execInit, State.busy_eq_true.mpr h]

theorem execInit_badLength {s : State} (h : s.pend = .none) (hk : keylenLegal s.keylen = false) :
    execInit s = .next (s.setErr .keylen) := by
  simp [execInit, State.busy_eq_false.mpr h, hk]

theorem execInit_accepted {s : State} (h : s.pend = .none) (hk : keylenLegal s.keylen = true) :
    execInit s = .next (s.clearReady.accept .init) := by
  simp [execInit, State.busy_eq_false.mpr h, hk]

/-- Everything a command can do in the step that writes it: nothing, set one flag, or be accepted. -/
theorem exec_cases (i : Instr) (s : State) :
    (i = .nop ∧ exec i s = .next s) ∨
    (∃ f, exec i s = .next (s.setErr f)) ∨
    (i = .init ∧ s.pend = .none ∧ keylenLegal s.keylen = true ∧ exec i s = .next (s.clearReady.accept .init)) ∨
    (i = .encrypt ∧ s.pend = .none ∧ s.ready = true ∧ exec i s = .next (s.accept .encrypt)) ∨
    (i = .decrypt ∧ s.pend = .none ∧ s.ready = true ∧ exec i s = .next (s.accept .decrypt)) := by
  by_cases hp : s.pend = .none
  · cases i with
    | nop => exact .inl ⟨rfl, rfl⟩
    | init =>
      cases hk : keylenLegal s.keylen with
      | true => exact .inr (.inr (.inl ⟨rfl, hp, rfl, execInit_accepted hp hk⟩))
      | false => exact .inr (.inl ⟨_, execInit_badLength hp hk⟩)
    | encrypt =>
      cases hr : s.ready with
      | true => exact .inr (.inr (.inr (.inl ⟨rfl, hp, rfl, acceptTransform_accepted _ hp hr⟩)))
      | false => exact .inr (.inl ⟨_, acceptTransform_noinit _ hp hr⟩)
    | decrypt =>
      cases hr : s.ready with
      | true => exact .inr (.inr (.inr (.inr ⟨rfl, hp, rfl, acceptTransform_accepted _ hp hr⟩)))
      | false => exact .inr (.inl ⟨_, acceptTransform_noinit _ hp hr⟩)
  · cases i with
    | nop => exact .inl ⟨rfl, rfl⟩
    | init => exact .inr (.inl ⟨_, execInit_busy hp⟩)
    | encrypt => exact .inr (.inl ⟨_, acceptTransform_busy _ hp⟩)
    | decrypt => exact .inr (.inl ⟨_, acceptTransform_busy _ hp⟩)

/-! ### The Host's accesses (20_memory.md) -/

/-- A read changes nothing but, for DL or DR while BUSY = 1, the count of free values. -/
theorem readReg_state (r : Option Reg) (s : State) :
    (readReg r s).2 = s ∨
    (s.busy = true ∧ (r = some .dl ∨ r = some .dr) ∧ readReg r s = s.drawWord) := by
  cases hb : s.busy with
  | false => rcases r with _ | (_ | _ | _ | _ | _ | j) <;> simp [readReg, readBlockHalf, hb]
  | true => rcases r with _ | (_ | _ | _ | _ | _ | j) <;> simp [readReg, readBlockHalf, hb]

theorem writeOperand_busy (write : State → State) {s : State} (h : s.pend ≠ .none) :
    writeOperand write s = s.setErr .busy := by
  simp [writeOperand, State.busy_eq_true.mpr h]

theorem writeOperand_idle (write : State → State) {s : State} (h : s.pend = .none) :
    writeOperand write s = write s := by
  simp [writeOperand, State.busy_eq_false.mpr h]

/-- A command word always answers a next state. -/
theorem presentCommand_next (w : Word) (s : State) : ∃ s', presentCommand w s = .next s' := by
  unfold presentCommand
  split
  · rename_i i _
    rcases exec_cases i s with ⟨_, h⟩ | ⟨_, h⟩ | ⟨_, _, _, h⟩ | ⟨_, _, _, h⟩ | ⟨_, _, _, h⟩ <;> exact ⟨_, h⟩
  · exact ⟨_, rfl⟩

/-- A register write always answers a next state. -/
theorem writeReg_next (r : Option Reg) (v : Word) (s : State) : ∃ s', writeReg r v s = .next s' := by
  rcases r with _ | (_ | _ | _ | _ | _ | j)
  · exact ⟨_, rfl⟩
  · exact presentCommand_next v s
  all_goals exact ⟨_, rfl⟩

theorem onNext_next (s : State) (f : State → State) : onNext (.next s) f = .next (f s) := rfl

theorem onNext_eq_next {o : Host.Outcome State Fault Refusal} {f : State → State} {t : State} :
    onNext o f = .next t ↔ ∃ s, o = .next s ∧ f s = t := by
  cases o <;> simp [onNext]

theorem hostStep_read {off : Offset} {n : Nat} {s : State} (h : (Access.read off n).legal = true) :
    hostStep (.read off n) s = .next ((readReg (regAt off) s).2.respond (.data (readReg (regAt off) s).1)) := by
  simp [hostStep, h]

theorem hostStep_write {off : Offset} {n : Nat} {v : Word} {s : State} (h : (Access.write off n v).legal = true) :
    hostStep (.write off n v) s = onNext (writeReg (regAt off) v s) (·.respond .written) := by
  simp [hostStep, h]

/-- An illegal access gets the bus error response (20_memory.md R53). -/
theorem hostStep_illegal {a : Access} {s : State} (h : a.legal = false) : hostStep a s = .fault .busError := by
  simp [hostStep, h]

/-- Everything a Host access can do when it answers a next state. -/
theorem hostStep_cases {a : Access} {s t : State} (h : hostStep a s = .next t) :
    (∃ off, a = .read off 4 ∧ off.toNat % 4 = 0 ∧
      t = (readReg (regAt off) s).2.respond (.data (readReg (regAt off) s).1)) ∨
    (∃ off v s', a = .write off 4 v ∧ off.toNat % 4 = 0 ∧ writeReg (regAt off) v s = .next s' ∧
      t = s'.respond .written) := by
  cases hl : a.legal with
  | false => simp [hostStep_illegal hl] at h
  | true =>
    cases a with
    | read off n =>
      obtain ⟨rfl, hoff⟩ : n = 4 ∧ off.toNat % 4 = 0 := by
        simpa [Access.legal, Access.bytes, Access.off] using hl
      rw [hostStep_read hl] at h
      cases h
      exact .inl ⟨off, rfl, hoff, rfl⟩
    | write off n v =>
      obtain ⟨rfl, hoff⟩ : n = 4 ∧ off.toNat % 4 = 0 := by
        simpa [Access.legal, Access.bytes, Access.off] using hl
      rw [hostStep_write hl, onNext_eq_next] at h
      obtain ⟨s', hs', rfl⟩ := h
      exact .inr ⟨off, v, s', rfl, hoff, hs', rfl⟩

/-- Everything a register write can do: a command, a clearing of flags, an operand stored while idle or dropped with
ERR_BUSY while busy, or nothing. -/
theorem writeReg_cases {r : Option Reg} {v : Word} {s t : State} (h : writeReg r v s = .next t) :
    (r = some .cmd ∧ presentCommand v s = .next t) ∨
    (r = some .status ∧ t = s.clearErrs v) ∨
    (s.pend ≠ .none ∧ (r = some .keylen ∨ r = some .dl ∨ r = some .dr ∨ ∃ j, r = some (.key j)) ∧
      t = s.setErr .busy) ∨
    (s.pend = .none ∧
      ((r = some .keylen ∧ t = s.writeKeylen v) ∨ (r = some .dl ∧ t = s.writeDl v) ∨
       (r = some .dr ∧ t = s.writeDr v) ∨ ∃ j, r = some (.key j) ∧ t = s.writeKey j v)) ∨
    (r = none ∧ t = s) := by
  by_cases hp : s.pend = .none
  · rcases r with _ | (_ | _ | _ | _ | _ | j) <;>
      simp only [writeReg, writeOperand_idle _ hp, Host.Outcome.next.injEq] at h <;> simp [hp, h]
  · rcases r with _ | (_ | _ | _ | _ | _ | j) <;>
      simp only [writeReg, writeOperand_busy _ hp, Host.Outcome.next.injEq] at h <;> simp [hp, h]

/-- While an operation pends a command word changes at most the error flags (40_command_interface.md R103). -/
theorem presentCommand_busy {w : Word} {s t : State} (hp : s.pend ≠ .none) (h : presentCommand w s = .next t) :
    t = { s with errs := t.errs } := by
  unfold presentCommand at h
  split at h
  · rename_i i _
    rcases exec_cases i s with ⟨_, e⟩ | ⟨_, e⟩ | ⟨_, hn, _⟩ | ⟨_, hn, _⟩ | ⟨_, hn, _⟩
    · rw [e] at h
      cases h
      rfl
    · rw [e] at h
      cases h
      rfl
    all_goals exact absurd hn hp
  · cases h
    rfl

/-- While an operation pends a Host access changes at most the error flags, the response and the count of free values
(20_memory.md R59 to R65). -/
theorem hostStep_busy {a : Access} {s t : State} (hp : s.pend ≠ .none) (h : hostStep a s = .next t) :
    t = { s with errs := t.errs, resp := t.resp, draws := t.draws } := by
  rcases hostStep_cases h with ⟨off, _, _, rfl⟩ | ⟨off, v, s', _, _, hw, rfl⟩
  · rcases readReg_state (regAt off) s with h' | ⟨_, _, h'⟩ <;> rw [h'] <;> rfl
  · rcases writeReg_cases hw with ⟨_, hc⟩ | ⟨_, rfl⟩ | ⟨_, _, rfl⟩ | ⟨hn, _⟩ | ⟨_, rfl⟩
    · rw [presentCommand_busy hp hc]
      rfl
    · rfl
    · rfl
    · exact absurd hn hp
    · rfl

/-! ### The Engine (40_command_interface.md R104) -/

theorem outcomeOf_eq_next {e : Except Fault State} {t : State} : outcomeOf e = .next t ↔ e = .ok t := by
  cases e <;> simp [outcomeOf]

/-- Everything the Engine's turn can do when it answers a next state. -/
theorem engineStep_cases {s t : State} (h : engineStep s = .next t) :
    (s.pend = .none ∧ t = s) ∨
    (s.pend = .init ∧ ∃ tab, buildSchedule s.keys s.keylen.toNat s.tables = .ok tab ∧
      t = (s.installSchedule tab).complete) ∨
    (s.pend = .encrypt ∧ ∃ lr, encipher s.tables s.dl s.dr = .ok lr ∧ t = (s.writeBlock lr).complete) ∨
    (s.pend = .decrypt ∧ ∃ lr, decipher s.tables s.dl s.dr = .ok lr ∧ t = (s.writeBlock lr).complete) := by
  unfold engineStep at h
  cases hp : s.pend with
  | none =>
    simp only [hp] at h
    cases h
    exact .inl ⟨rfl, rfl⟩
  | init =>
    simp only [hp, onNext_eq_next, outcomeOf_eq_next, initBody, bind_eq_ok] at h
    obtain ⟨_, ⟨tab, ht, hs⟩, rfl⟩ := h
    cases hs
    exact .inr (.inl ⟨rfl, tab, ht, rfl⟩)
  | encrypt =>
    simp only [hp, onNext_eq_next, outcomeOf_eq_next, encryptBody, bind_eq_ok] at h
    obtain ⟨_, ⟨lr, hl, hs⟩, rfl⟩ := h
    cases hs
    exact .inr (.inr (.inl ⟨rfl, lr, hl, rfl⟩))
  | decrypt =>
    simp only [hp, onNext_eq_next, outcomeOf_eq_next, decryptBody, bind_eq_ok] at h
    obtain ⟨_, ⟨lr, hl, hs⟩, rfl⟩ := h
    cases hs
    exact .inr (.inr (.inr ⟨rfl, lr, hl, rfl⟩))

theorem engineStep_init {s : State} {tab : Tables} (hp : s.pend = .init)
    (h : buildSchedule s.keys s.keylen.toNat s.tables = .ok tab) :
    engineStep s = .next (s.installSchedule tab).complete := by
  simp only [engineStep, hp, initBody, h, ok_bind, outcomeOf, onNext]

theorem engineStep_encrypt {s : State} {lr : Word × Word} (hp : s.pend = .encrypt)
    (h : encipher s.tables s.dl s.dr = .ok lr) : engineStep s = .next (s.writeBlock lr).complete := by
  simp only [engineStep, hp, encryptBody, h, ok_bind, outcomeOf, onNext]

theorem engineStep_decrypt {s : State} {lr : Word × Word} (hp : s.pend = .decrypt)
    (h : decipher s.tables s.dl s.dr = .ok lr) : engineStep s = .next (s.writeBlock lr).complete := by
  simp only [engineStep, hp, decryptBody, h, ok_bind, outcomeOf, onNext]

/-! ### One step -/

theorem step_nil {s : State} (h : s.events = []) : step s = engineStep s := by
  simp [step, h]

theorem step_cons {s : State} {e : Event} {rest : List Event} (h : s.events = e :: rest) :
    step s = runEvent e { s with events := rest } := by
  simp [step, h]

/-- Whose move a step is, and what it does. -/
theorem step_cases {s t : State} (h : step s = .next t) :
    (s.events = [] ∧ engineStep s = .next t) ∨
    (∃ rest, s.events = .engine :: rest ∧ engineStep { s with events := rest } = .next t) ∨
    (∃ rest, s.events = .reset :: rest ∧ t = State.resetStep { s with events := rest }) ∨
    (∃ a rest, s.events = .host a :: rest ∧ hostStep a { s with events := rest } = .next t) := by
  cases he : s.events with
  | nil => exact .inl ⟨rfl, step_nil he ▸ h⟩
  | cons e rest =>
    rw [step_cons he] at h
    cases e with
    | host a => exact .inr (.inr (.inr ⟨a, rest, rfl, h⟩))
    | engine => exact .inr (.inl ⟨rest, rfl, h⟩)
    | reset =>
      cases h
      exact .inr (.inr (.inl ⟨rest, rfl, rfl⟩))
    | hostDuringReset a => cases h

/-- A run whose first step answers a next state goes on from it. -/
theorem run_succ_of_next {s t : State} (k : Nat) (h : step s = .next t) :
    Host.Core.run Sys2Proof.core (k + 1) s = Host.Core.run Sys2Proof.core k t := by
  have : Sys2Proof.core.step s = .next t := h
  simp only [Host.Core.run, this]

theorem step_before (s : State) (e : Event) : step (s.before e) = runEvent e s := rfl

end Sys2Proof.Machine
end

