-- ==== Sys2Proof/Laws/PerInstr.lean ====
section
/-! SUPPORT. Statements about every instruction as syntax, one lemma per constructor (LAWS.json "per_instruction"). -/

namespace Sys2Proof.Laws

/-- The command word of an instruction: its RSVD field is zero and its OP field is the table's value, so the word is its
OP value as a number (30_encoding.md R80, R81). -/
def CommandWord.Statement (i : Instr) : Prop :=
  i.wf = true ∧ rsvdField (encode i) = 0 ∧ opField (encode i) = opcode i ∧ (encode i).toNat = (opcode i).toNat

theorem CommandWord.nop : CommandWord.Statement .nop := ⟨rfl, rfl, rfl, rfl⟩
theorem CommandWord.init : CommandWord.Statement .init := ⟨rfl, rfl, rfl, rfl⟩
theorem CommandWord.encrypt : CommandWord.Statement .encrypt := ⟨rfl, rfl, rfl, rfl⟩
theorem CommandWord.decrypt : CommandWord.Statement .decrypt := ⟨rfl, rfl, rfl, rfl⟩

end Sys2Proof.Laws
end

