-- ==== Sys2Proof/Laws/Pi.lean ====
section
/-! SUPPORT. For the definition of the ROM as digits of π (10_state.md R34): π within a stated error by Machin's formula in
integers, and the words of a number written in base 2^32. -/

namespace Sys2Proof.Laws

/-! ### The arctangent series in integers -/

/-- `scale` times `1/(2k+1) - 1/((2k+3) square) + 1/((2k+5) square^2) - ...`, `m` terms of it, from the last term inwards and
rounding down at each division. -/
def arctanTail (scale square : Nat) : Nat → Nat → Nat
  | 0, _ => 0
  | m + 1, k => scale / (2 * k + 1) - arctanTail scale square m (k + 1) / square

/-- The series `1/(2k+1) - 1/((2k+3) y) + 1/((2k+5) y^2) - ...`. -/
noncomputable def arctanSeries (y : ℝ) (k : Nat) : ℝ := ∑' n : ℕ, (-1) ^ n / ((2 * (k + n) + 1) * y ^ n)

theorem arctanTail_le (scale square m k : Nat) : arctanTail scale square m k ≤ scale / (2 * k + 1) := by
  cases m with
  | zero => exact Nat.zero_le _
  | succ m => exact Nat.sub_le _ _

/-- The terms of the series are under those of 1 + 1/2 + 1/4 + ... -/
theorem arctanSeries_term_le {y : ℝ} (hy : 2 ≤ y) (k n : Nat) :
    ‖(-1 : ℝ) ^ n / ((2 * (k + n) + 1) * y ^ n)‖ ≤ (1 / 2) ^ n := by
  rw [norm_div, norm_pow, norm_neg, norm_one, one_pow, Real.norm_of_nonneg (by positivity), one_div, one_div, inv_pow]
  refine inv_anti₀ (by positivity) ?_
  have h1 : (2 : ℝ) ^ n ≤ y ^ n := pow_le_pow_left₀ (by norm_num) hy n
  have h2 : (0 : ℝ) ≤ (k : ℝ) + n := by positivity
  nlinarith [pow_pos (show (0 : ℝ) < y by linarith) n]

theorem arctanSeries_summable {y : ℝ} (hy : 2 ≤ y) (k : Nat) :
    Summable fun n : ℕ => (-1 : ℝ) ^ n / ((2 * (k + n) + 1) * y ^ n) :=
  Summable.of_norm_bounded summable_geometric_two (arctanSeries_term_le hy k)

theorem arctanSeries_abs_le {y : ℝ} (hy : 2 ≤ y) (k : Nat) : |arctanSeries y k| ≤ 2 :=
  tsum_of_norm_bounded hasSum_geometric_two (arctanSeries_term_le hy k)

theorem arctanSeries_succ {y : ℝ} (hy : 2 ≤ y) (k : Nat) :
    arctanSeries y k = 1 / (2 * k + 1) - arctanSeries y (k + 1) / y := by
  have hy0 : y ≠ 0 := by linarith
  rw [arctanSeries, (arctanSeries_summable hy k).tsum_eq_zero_add, arctanSeries, ← tsum_div_const, sub_eq_add_neg,
    ← tsum_neg]
  congr 1
  · simp
  · refine tsum_congr fun n => ?_
    push_cast
    have h1 : (2 * ((k : ℝ) + (n + 1)) + 1) ≠ 0 := by positivity
    have h2 : (2 * ((k : ℝ) + 1 + n) + 1) ≠ 0 := by positivity
    field_simp
    ring

theorem arctan_inv_eq {x : Nat} (hx : 2 ≤ x) : Real.arctan (x : ℝ)⁻¹ = arctanSeries ((x ^ 2 : Nat) : ℝ) 0 / x := by
  have hx' : (2 : ℝ) ≤ x := by exact_mod_cast hx
  have h := Real.hasSum_arctan (x := (x : ℝ)⁻¹) (by
    rw [Real.norm_of_nonneg (by positivity)]
    exact inv_lt_one_of_one_lt₀ (by linarith))
  rw [← h.tsum_eq, arctanSeries, ← tsum_div_const]
  refine tsum_congr fun n => ?_
  have h1 : (x : ℝ) ≠ 0 := by positivity
  push_cast
  have h2 : (2 * (n : ℝ) + 1) ≠ 0 := by positivity
  rw [inv_pow, pow_succ, pow_mul]
  field_simp
  simp

/-- A quotient rounded down is within 1 of the quotient. -/
theorem cast_div_bounds (a : Nat) {b : Nat} (hb : 0 < b) :
    ((a / b : Nat) : ℝ) ≤ a / b ∧ (a : ℝ) / b < (a / b : Nat) + 1 := by
  refine ⟨Nat.cast_div_le, ?_⟩
  rw [div_lt_iff₀ (by exact_mod_cast hb)]
  have h := Nat.lt_div_mul_add (a := a) hb
  have : a < (a / b + 1) * b := by linarith
  exact_mod_cast this

/-- The integer sum is within 2, and the part not summed, of the series. -/
theorem arctanTail_error {scale square : Nat} (hs : 25 ≤ square) (m k : Nat) :
    |(arctanTail scale square m k : ℝ) - scale * arctanSeries square k| ≤ 2 + 2 * scale / (square : ℝ) ^ m := by
  have hs' : (25 : ℝ) ≤ square := by exact_mod_cast hs
  induction m generalizing k with
  | zero =>
    have h := arctanSeries_abs_le (show (2 : ℝ) ≤ square by linarith) k
    have hB : (0 : ℝ) ≤ scale := by positivity
    simp only [arctanTail, Nat.cast_zero, zero_sub, abs_neg, abs_mul, abs_of_nonneg hB, pow_zero, div_one]
    nlinarith
  | succ m ih =>
    have hle : arctanTail scale square m (k + 1) / square ≤ scale / (2 * k + 1) :=
      (Nat.div_le_self _ _).trans
        ((arctanTail_le scale square m (k + 1)).trans (Nat.div_le_div_left (by omega) (by omega)))
    have e := cast_div_bounds scale (show 0 < 2 * k + 1 by omega)
    have f := cast_div_bounds (arctanTail scale square m (k + 1)) (show 0 < square by omega)
    have hi := ih (k + 1)
    push_cast at e
    rw [arctanTail, Nat.cast_sub hle, arctanSeries_succ (by linarith) k]
    generalize arctanTail scale square m (k + 1) = t at *
    have hd : |(t : ℝ) / square - scale * (arctanSeries square (k + 1) / square)| ≤
        (2 + 2 * scale / (square : ℝ) ^ m) / square := by
      rw [← mul_div_assoc, ← sub_div, abs_div, abs_of_pos (show (0 : ℝ) < square by linarith)]
      exact div_le_div_of_nonneg_right hi (by linarith)
    have hq : (2 + 2 * scale / (square : ℝ) ^ m) / square ≤ 1 + 2 * scale / (square : ℝ) ^ (m + 1) := by
      rw [add_div, div_div, ← pow_succ]
      have : (2 : ℝ) / square ≤ 1 := by
        rw [div_le_one (by linarith)]
        linarith
      linarith
    rw [abs_le] at hd ⊢
    rw [mul_sub, mul_one_div]
    constructor <;> linarith [hd.1, hd.2, e.1, e.2, f.1, f.2]

/-- π by Machin's formula in integers: with enough terms, 1195 scale π is within 12000 of the integer sums. -/
theorem pi_error {scale m m' : Nat} (h : 2 * scale ≤ (5 ^ 2) ^ m) (h' : 2 * scale ≤ (239 ^ 2) ^ m') :
    |1195 * (scale * Real.pi) -
      (3824 * (arctanTail scale (5 ^ 2) m 0 : ℝ) - 20 * (arctanTail scale (239 ^ 2) m' 0 : ℝ))| ≤ 12000 := by
  have hpi := Real.four_mul_arctan_inv_5_sub_arctan_inv_239
  have a5 := arctan_inv_eq (x := 5) (by norm_num)
  have a239 := arctan_inv_eq (x := 239) (by norm_num)
  have e5 := arctanTail_error (scale := scale) (square := 5 ^ 2) (by norm_num) m 0
  have e239 := arctanTail_error (scale := scale) (square := 239 ^ 2) (by norm_num) m' 0
  have k5 : 2 * (scale : ℝ) / (((5 ^ 2 : Nat)) : ℝ) ^ m ≤ 1 := by
    rw [div_le_one (by positivity)]
    exact_mod_cast h
  have k239 : 2 * (scale : ℝ) / (((239 ^ 2 : Nat)) : ℝ) ^ m' ≤ 1 := by
    rw [div_le_one (by positivity)]
    exact_mod_cast h'
  rw [show ((5 : ℕ) : ℝ) = 5 by norm_num] at a5
  rw [show ((239 : ℕ) : ℝ) = 239 by norm_num] at a239
  rw [a5, a239] at hpi
  generalize arctanSeries ((5 ^ 2 : Nat) : ℝ) 0 = s at *
  generalize arctanSeries ((239 ^ 2 : Nat) : ℝ) 0 = s' at *
  generalize (arctanTail scale (5 ^ 2) m 0 : ℝ) = a at *
  generalize (arctanTail scale (239 ^ 2) m' 0 : ℝ) = b at *
  rw [abs_le] at e5 e239 ⊢
  have : 1195 * (scale * Real.pi) = 3824 * (scale * s) - 20 * (scale * s') := by
    have : Real.pi = 4 * (4 * (s / 5) - s' / 239) := by linarith
    rw [this]
    ring
  rw [this]
  constructor <;> linarith [e5.1, e5.2, e239.1, e239.2]

/-! ### Words of a number -/

/-- The number whose base 2^32 digits are the words of a list, the first the most significant. -/
def numberOfWords (ws : List Word) : Nat := ws.foldl (fun a w => a * 2 ^ 32 + w.toNat) 0

/-- Word n of the list is digit n of the number. -/
theorem digit_numberOfWords {ws : List Word} {n len : Nat} {w : Word} (hlen : ws.length = len) (h : ws[n]? = some w) :
    numberOfWords ws / 2 ^ (32 * (len - 1 - n)) % 2 ^ 32 = w.toNat := by
  subst hlen
  induction ws using List.reverseRecOn generalizing n with
  | nil => simp at h
  | append_singleton ws x ih =>
    rw [numberOfWords, List.foldl_append, List.foldl_cons, List.foldl_nil]
    by_cases hn : n < ws.length
    · rw [List.getElem?_append_left hn] at h
      have hsub : (ws ++ [x]).length - 1 - n = (ws.length - 1 - n) + 1 := by
        rw [List.length_append, List.length_singleton]
        omega
      rw [hsub, Nat.mul_succ, pow_add, Nat.mul_comm (2 ^ _) (2 ^ 32), ← Nat.div_div_eq_div_mul,
        show ∀ a : Nat, (a * 2 ^ 32 + x.toNat) / 2 ^ 32 = a from fun a => by have := x.isLt; omega]
      exact ih h
    · have hl := (List.getElem?_eq_some_iff.mp h).1
      obtain rfl : n = ws.length := by
        rw [List.length_append, List.length_singleton] at hl
        omega
      simp at h
      subst h
      simp
      omega

end Sys2Proof.Laws
end

