-- ==== Sys2Proof/Tests/Slice0.lean ====
section
/-! SUPPORT. Tests of the model, each on values taken from the spec (30_encoding.md; 95_test_vectors.md sections 1 and 2), and
for each obligation with hypotheses a witness that meets them. -/

namespace Sys2Proof.Tests

open Sys2Proof.Machine Sys2Proof.Claims

/-! ### Helpers -/

/-- An idle machine with a schedule in P and S (the ROM's words stand for one) and KEYLEN = 26. -/
def ready : State := { State.reset with keylen := 26, ready := true, tables := romTables }

/-- `s` with these moves to come. -/
def withMoves (s : State) (es : List Event) : State := { s with events := es }

/-- `s` with this operation pending. -/
def pending (s : State) (p : Pend) : State := { s with pend := p }

/-- What one step shows of KSFC's small state: STATUS, DL, DR, KEYLEN, PEND and the response. -/
def shows (s : State) (status dl dr : Word) (keylen : Byte) (p : Pend) (resp : Option Response) : Bool :=
  match step s with
  | .next t =>
    t.status == status && t.dl == dl && t.dr == dr && t.keylen == keylen && decide (t.pend = p) && decide (t.resp = resp)
  | .fault _ => false
  | .refused _ => false

/-- A computation gives this value. -/
def gives {α : Type} [DecidableEq α] (e : Except Fault α) (v : α) : Bool :=
  match e with
  | .ok a => decide (a = v)
  | .error _ => false

/-- The key registers of a key byte string (20_memory.md R52). -/
def keyRegs (k : List Byte) : Vector Word 14 := Vector.ofFn fun j => keyWordOfBytes k j.val

/-- The bytes of "abcdefghijklmnopqrstuvwxyz". -/
def alphabet : List Byte := (List.range 26).map fun n => BitVec.ofNat 8 (0x61 + n)

/-! ### Well-formedness: an ill-formed term for each check -/

theorem test_wf_one_byte_access_refused : (Access.read 0x04 1).wf = false := by decide
theorem test_wf_half_word_access_refused : (Access.read 0x04 2).wf = false := by decide
theorem test_wf_misaligned_read_refused : (Access.read 0x06 4).wf = false := by decide
theorem test_wf_misaligned_write_refused : (Access.write 0x11 4 0).wf = false := by decide
theorem test_wf_word_access : (Access.write 0x7C 4 0).wf = true := by decide
theorem test_wf_address_below_window_refused : addressWf 0x1000 0xFFC 4 = false := by decide
theorem test_wf_address_past_window_refused : addressWf 0x1000 0x1080 4 = false := by decide
theorem test_wf_address_misaligned_refused : addressWf 0x1000 0x1006 4 = false := by decide
theorem test_wf_address_in_window : addressWf 0x1000 0x107C 4 = true := by decide
theorem test_wf_every_instruction : Instr.nop.wf && Instr.init.wf && Instr.encrypt.wf && Instr.decrypt.wf = true := by
  decide

/-! ### Decoding: words written out bit by bit (30_encoding.md R80, R81, R85) -/

theorem test_decode_nop : decode (0b00000000000000000000000000000000 : Word) = .ok .nop := by rfl
theorem test_decode_init : decode (0b00000000000000000000000000000001 : Word) = .ok .init := by rfl
theorem test_decode_encrypt : decode (0b00000000000000000000000000000010 : Word) = .ok .encrypt := by rfl
theorem test_decode_decrypt : decode (0b00000000000000000000000000000011 : Word) = .ok .decrypt := by rfl
theorem test_decode_op_4_reserved : decode (0b00000000000000000000000000000100 : Word) = .error .opReserved := by rfl
theorem test_decode_op_15_reserved : decode (0b00000000000000000000000000001111 : Word) = .error .opReserved := by rfl
theorem test_decode_bit_4_reserved : decode (0b00000000000000000000000000010010 : Word) = .error .rsvdNotZero := by rfl
theorem test_decode_bit_31_reserved : decode (0b10000000000000000000000000000001 : Word) = .error .rsvdNotZero := by rfl
theorem test_encode_words :
    [Instr.nop, .init, .encrypt, .decrypt].map encode = [0x00000000, 0x00000001, 0x00000002, 0x00000003] := by decide
theorem test_decodeTableWord :
    [0, 1, 2, 3, 4].map (decodeTableWord 32) = [some .nop, some .init, some .encrypt, some .decrypt, none] := by decide

/-! ### Commands (95_test_vectors.md section 2.3) -/

theorem test_step_nop : shows (State.reset.withFetchWord 32 0) 0 0 0 0 .none (some .written) = true := by decide
theorem test_step_nop_while_busy :
    shows ((pending ready .init).withFetchWord 32 0) 3 0 0 26 .init (some .written) = true := by decide
theorem test_step_init_length_0 :
    shows (State.reset.withFetchWord 32 1) 0x100 0 0 0 .none (some .written) = true := by decide
theorem test_step_init_length_57_keeps_ready :
    shows ({ ready with keylen := 57 }.withFetchWord 32 1) 0x102 0 0 57 .none (some .written) = true := by decide
theorem test_step_init_accepted :
    shows (ready.withFetchWord 32 1) 0x1 0 0 26 .init (some .written) = true := by decide
theorem test_step_init_busy_before_length :
    shows ((pending State.reset .init).withFetchWord 32 1) 0x401 0 0 0 .init (some .written) = true := by decide
theorem test_step_encrypt_not_ready :
    shows (State.reset.withFetchWord 32 2) 0x200 0 0 0 .none (some .written) = true := by decide
theorem test_step_encrypt_accepted :
    shows (ready.withFetchWord 32 2) 0x3 0 0 26 .encrypt (some .written) = true := by decide
theorem test_step_decrypt_busy_before_ready :
    shows ((pending State.reset .init).withFetchWord 32 3) 0x401 0 0 0 .init (some .written) = true := by decide
theorem test_step_decrypt_accepted :
    shows (ready.withFetchWord 32 3) 0x3 0 0 26 .decrypt (some .written) = true := by decide
theorem test_step_reserved_word_while_busy :
    shows ((pending State.reset .init).withFetchWord 32 5) 0x801 0 0 0 .init (some .written) = true := by decide

/-! ### Register accesses (95_test_vectors.md section 2.2) -/

theorem test_write_keylen_low_byte :
    shows (State.reset.before (.host (.write 0x08 4 0x1FF))) 0 0 0 0xFF .none (some .written) = true := by decide
theorem test_write_dl : shows (State.reset.before (.host (.write 0x10 4 0xCAFEBABE))) 0 0xCAFEBABE 0 0 .none
    (some .written) = true := by decide
theorem test_write_dl_while_busy : shows ((pending State.reset .init).before (.host (.write 0x10 4 0x12345678))) 0x401 0 0 0
    .init (some .written) = true := by decide
theorem test_write_status_clears_errors :
    shows ({ ready with errs := ⟨true, true, true, true⟩ }.before (.host (.write 0x04 4 0xFFFFFFFF))) 0x2 0 0 26 .none
      (some .written) = true := by decide
theorem test_write_status_clears_named_errors :
    shows ({ State.reset with errs := ⟨true, true, true, true⟩ }.before (.host (.write 0x04 4 0x300))) 0xC00 0 0 0 .none
      (some .written) = true := by decide
theorem test_read_status :
    shows ({ ready with errs := ⟨true, true, true, true⟩ }.before (.host (.read 0x04 4))) 0xF02 0 0 26 .none
      (some (.data 0xF02)) = true := by decide
theorem test_read_key_is_zero :
    shows ({ State.reset with keys := Vector.replicate 14 0x61626364 }.before (.host (.read 0x54 4))) 0 0 0 0 .none
      (some (.data 0)) = true := by decide
theorem test_read_misaligned_is_bus_error :
    step (State.reset.before (.host (.read 0x06 4))) = .fault .busError := by rfl
theorem test_write_misaligned_is_bus_error :
    step (State.reset.before (.host (.write 0x11 4 0))) = .fault .busError := by rfl
theorem test_access_during_reset_refused :
    step (State.reset.before (.hostDuringReset (.read 0x04 4))) = .refused .accessOverlapsReset := by rfl

/-! ### The cipher (95_test_vectors.md sections 2.4 and 2.7) -/

theorem test_roundF_zero : gives (roundF romTables 0x00000000) 0x2FCFF51E = true := by decide
theorem test_roundF_bytes : gives (roundF romTables 0x01020304) 0x3CEDFF8C = true := by decide
theorem test_roundF_top_byte : gives (roundF romTables 0x80000000) 0x1D9CE8BC = true := by decide
theorem test_encipher_rom : gives (encipher romTables 0xFFFFFFFF 0xFFFFFFFF) (0xBA66D0C0, 0xEA4FA48C) = true := by
  decide +kernel
theorem test_decipher_rom : gives (decipher romTables 0 0) (0x3E6C275D, 0x20C8AB5A) = true := by decide +kernel

/-! ### The key schedule (95_test_vectors.md sections 2.5 and 2.6) -/

theorem test_key_word_wraps : gives (drawGroup (keyRegs alphabet) 26 4 24 0) (0x797A6162, 2) = true := by decide
theorem test_key_xor_p6_p17 :
    gives (do
      let t ← ksKeyXor (keyRegs alphabet) 26 romTables
      let a ← t.readP 6
      let b ← t.readP 17
      .ok (a, b)) (0x71549BFA, 0xF80B886F) = true := by decide +kernel
theorem test_first_expansion_step :
    gives (do
      let t ← ksKeyXor (keyRegs alphabet) 26 romTables
      let x ← expandStep { tables := t, al := 0, ar := 0, index := 0 }
      let a ← x.tables.readP 0
      let b ← x.tables.readP 1
      .ok (a, b, x.index)) (0x7B22D7A9, 0xCED4037D, 2) = true := by decide +kernel

/-! ### Listings (30_encoding.md R87, R88) -/

theorem test_listing_of_cmd_init : (HostStmt.cmd .init).access.listing.toList = "W 00 00000001".toList := by decide
theorem test_listing_of_rd_status : (HostStmt.rd .status).access.listing.toList = "R 04".toList := by decide
theorem test_setkey_words :
    (Pseudo.expand 0 (.setkey alphabet)).drop 7 = [.wr (.key 6) 0x797A0000] := by decide

/-! ### Witnesses: the hypotheses of each obligation, clause by clause -/

theorem test_witness_DecodeEncodeAgree : Instr.decrypt.wf = true ∧ (3 : Nat) < 2 ^ 32 ∧ 2 ^ 32 - 1 < 2 ^ 32 := by decide

theorem test_witness_StepRunsDecodedInstruction :
    (∃ rest t, (withMoves ready [cmdWrite 3]).events = cmdWrite 3 :: rest ∧ decode 3 = .ok .decrypt ∧
      exec .decrypt { withMoves ready [cmdWrite 3] with events := rest } = .next t) ∧
    ∃ t, exec .init ready = .next t := ⟨⟨[], _, rfl, rfl, rfl⟩, _, rfl⟩

theorem test_witness_CommandAcceptanceChecksInOrder :
    ∃ rest, (withMoves ready [cmdWrite 0xFFFFFFFF]).events = cmdWrite 0xFFFFFFFF :: rest := ⟨[], rfl⟩

theorem test_witness_NopHasNoEffect : ∃ rest, (withMoves State.reset [cmdWrite 0]).events = cmdWrite 0 :: rest :=
  ⟨[], rfl⟩

theorem test_witness_ReservedWordSetsOnlyErrCmd :
    (∃ rest, (withMoves State.reset [cmdWrite 4]).events = cmdWrite 4 :: rest) ∧
    4 ≤ ((4 : Word).extractLsb' 0 4).toNat ∧ (0x10 : Word).extractLsb' 4 28 ≠ 0 := ⟨⟨[], rfl⟩, by decide, by decide⟩

theorem test_witness_InitAcceptedThenBuildsSchedule :
    (∃ s : State, s.pend = .none ∧ s.keylen.toNat = 1 ∧ 1 ≤ s.keylen.toNat ∧ s.keylen.toNat ≤ 56) ∧
    ∃ s : State, s.pend = .none ∧ s.keylen.toNat = 56 ∧ 1 ≤ s.keylen.toNat ∧ s.keylen.toNat ≤ 56 :=
  ⟨⟨{ ready with keylen := 1 }, rfl, by decide⟩, { ready with keylen := 56 }, rfl, by decide⟩

theorem test_witness_EncryptAcceptedThenEnciphers :
    ∃ s : State, s.pend = .none ∧ s.ready = true ∧ s.tables.Full := ⟨ready, rfl, rfl, romTables_full⟩

theorem test_witness_DecryptAcceptedThenDeciphers :
    ∃ s : State, s.pend = .none ∧ s.ready = true ∧ s.tables.Full ∧ s.dl = 0xFFFFFFFF :=
  ⟨{ ready with dl := 0xFFFFFFFF }, rfl, rfl, romTables_full, rfl⟩

theorem test_witness_RejectedInitChangesOnlyItsFlag :
    (pending ready .encrypt).pend ≠ .none ∧ (State.reset.pend = .none ∧ State.reset.keylen.toNat = 0) ∧
    ({ ready with keylen := 57 } : State).pend = .none ∧ 56 < ({ ready with keylen := 57 } : State).keylen.toNat :=
  ⟨by decide, ⟨rfl, rfl⟩, rfl, by decide⟩

theorem test_witness_InstructionFrame :
    (∃ t, exec .init ready = .next t ∧ t.ready ≠ ready.ready ∧ t.pend ≠ ready.pend) ∧
    ∃ t, exec .encrypt State.reset = .next t ∧ t.errs ≠ State.reset.errs :=
  ⟨⟨_, rfl, by decide, by decide⟩, _, rfl, by decide⟩

theorem test_witness_ErrorSetsOneFlagAndNothingElse :
    (∃ rest, (withMoves ready [.host (.write 0x11 4 0)]).events = .host (.write 0x11 4 0) :: rest ∧
      ¬((4 : Nat) = 4 ∧ (0x11 : Offset).toNat % 4 = 0)) ∧
    (∃ rest, (withMoves ready [.host (.write 0x10 2 0)]).events = .host (.write 0x10 2 0) :: rest ∧
      ¬((2 : Nat) = 4 ∧ (0x10 : Offset).toNat % 4 = 0)) ∧
    (∀ ws ∈ [(4, ErrFlag.cmd), (2, .busy), (1, .busy)],
      ∃ rest, (withMoves (pending State.reset .init) [cmdWrite ws.1]).events = .host (.write 0x00 4 ws.1) :: rest ∧
        (0x00 : Offset).toNat % 4 = 0 ∧
        errorCause (withMoves (pending State.reset .init) [cmdWrite ws.1]) 0x00 ws.1 = some ws.2) ∧
    (∀ ws ∈ [(3, ErrFlag.noinit), (1, .keylen)],
      ∃ rest, (withMoves State.reset [cmdWrite ws.1]).events = .host (.write 0x00 4 ws.1) :: rest ∧
        (0x00 : Offset).toNat % 4 = 0 ∧ errorCause (withMoves State.reset [cmdWrite ws.1]) 0x00 ws.1 = some ws.2) ∧
    (∃ rest, (withMoves (pending ready .init) [.host (.write 0x54 4 0)]).events = .host (.write 0x54 4 0) :: rest ∧
      (0x54 : Offset).toNat % 4 = 0 ∧
      errorCause (withMoves (pending ready .init) [.host (.write 0x54 4 0)]) 0x54 0 = some .busy) ∧
    ∃ rest, (withMoves ready [.host (.write 0x04 4 0xF00)]).events = .host (.write 0x04 4 0xF00) :: rest ∧
      (0x04 : Offset).toNat % 4 = 0 ∧ errorCause (withMoves ready [.host (.write 0x04 4 0xF00)]) 0x04 0xF00 = none :=
  ⟨⟨[], rfl, by decide⟩, ⟨[], rfl, by decide⟩,
    fun ws h => ⟨[], rfl, rfl, by
      simp only [List.mem_cons, List.not_mem_nil, or_false] at h
      rcases h with rfl | rfl | rfl <;> decide⟩,
    fun ws h => ⟨[], rfl, rfl, by
      simp only [List.mem_cons, List.not_mem_nil, or_false] at h
      rcases h with rfl | rfl <;> decide⟩,
    ⟨[], rfl, by decide, by decide⟩, [], rfl, by decide, by decide⟩

theorem test_witness_FlagIsSetExactlyByItsCause :
    (∃ t, step (State.reset.before (cmdWrite 2)) = .next t ∧
      (State.reset.before (cmdWrite 2)).errs.get .noinit = false ∧ t.errs.get .noinit = true ∧
      errorCause (State.reset.before (cmdWrite 2)) 0x00 2 = some .noinit) ∧
    ∃ t, step State.reset = .next t ∧ State.reset.errs.get .cmd = false ∧ t.errs.get .cmd = false :=
  ⟨⟨_, rfl, rfl, rfl, by decide⟩, _, rfl, rfl, rfl⟩

theorem test_witness_FlagIsClearedOnlyByWriteOneOrReset :
    (∃ t, step ({ ready with errs := ⟨true, true, true, true⟩ }.before (.host (.write 0x04 4 0x800))) = .next t ∧
      t.errs.get .cmd = false) ∧
    ∃ t, step ({ ready with errs := ⟨true, true, true, true⟩ }.before .reset) = .next t ∧ t.errs.get .cmd = false :=
  ⟨⟨_, rfl, rfl⟩, _, rfl, rfl⟩

theorem test_witness_WindowIs128BytesAtBase :
    (128 ∣ 0x1000) ∧ windowOffset 0x1000 0x1000 = some 0x00 ∧ windowOffset 0x1000 0x107F = some 0x7F ∧
    windowOffset 0x1000 0x1080 = none ∧ windowOffset 0x1000 0xFFF = none := by decide

theorem test_witness_ExactlyLegalAccessesAreAnswered :
    (∃ rest, (withMoves ready [.host (.read 0x7C 4)]).events = .host (.read 0x7C 4) :: rest ∧
      (Access.read 0x7C 4).bytes = 4 ∧ (Access.read 0x7C 4).off.toNat % 4 = 0) ∧
    (∃ rest, (withMoves ready [.host (.read 0x7D 4)]).events = .host (.read 0x7D 4) :: rest ∧
      ¬((Access.read 0x7D 4).bytes = 4 ∧ (Access.read 0x7D 4).off.toNat % 4 = 0)) ∧
    ∃ rest, (withMoves ready [.host (.write 0x10 2 0)]).events = .host (.write 0x10 2 0) :: rest ∧
      ¬((Access.write 0x10 2 0).bytes = 4 ∧ (Access.write 0x10 2 0).off.toNat % 4 = 0) :=
  ⟨⟨[], rfl, by decide⟩, ⟨[], rfl, by decide⟩, [], rfl, by decide⟩

theorem test_witness_StatusReadReturnsFlags :
    ∃ rest, (withMoves ready [.host (.read 0x04 4)]).events = .host (.read 0x04 4) :: rest := ⟨[], rfl⟩

theorem test_witness_StatusWriteClearsOnesOnly :
    ∃ rest, (withMoves ready [.host (.write 0x04 4 0xF00)]).events = .host (.write 0x04 4 0xF00) :: rest := ⟨[], rfl⟩

theorem test_witness_OperandWritesStoreOrSetErrBusy :
    (∃ rest, (withMoves (pending ready .init) [.host (.write 0x20 4 1)]).events = .host (.write 0x20 4 1) :: rest ∧
      (∃ j : Fin 14, (0x20 : Offset).toNat = 0x20 + 4 * j.val) ∧
      (withMoves (pending ready .init) [.host (.write 0x20 4 1)]).pend ≠ .none) ∧
    (∀ off ∈ ([0x08, 0x10, 0x14, 0x20, 0x54] : List Offset),
      ∃ rest, (withMoves ready [.host (.write off 4 1)]).events = .host (.write off 4 1) :: rest ∧
        (withMoves ready [.host (.write off 4 1)]).pend = .none) ∧
    ∃ j : Fin 14, (0x54 : Offset).toNat = 0x20 + 4 * j.val :=
  ⟨⟨[], rfl, ⟨0, by decide⟩, by decide⟩, fun _ _ => ⟨[], rfl, rfl⟩, 13, by decide⟩

theorem test_witness_BlockReadsAreFreeWhileBusy :
    (∃ rest, (withMoves ready [.host (.read 0x10 4)]).events = .host (.read 0x10 4) :: rest ∧
      (withMoves ready [.host (.read 0x10 4)]).pend = .none) ∧
    ∃ rest, (withMoves (pending ready .init) [.host (.read 0x14 4)]).events = .host (.read 0x14 4) :: rest ∧
      (withMoves (pending ready .init) [.host (.read 0x14 4)]).pend ≠ .none := ⟨⟨[], rfl, rfl⟩, [], rfl, by decide⟩

theorem test_witness_CmdKeyAndKeylenReads :
    (∀ off ∈ ([0x00, 0x08, 0x20, 0x54] : List Offset),
      ∃ rest, (withMoves ready [.host (.read off 4)]).events = .host (.read off 4) :: rest) ∧
    (∃ j : Fin 14, (0x20 : Offset).toNat = 0x20 + 4 * j.val) ∧ ∃ j : Fin 14, (0x54 : Offset).toNat = 0x20 + 4 * j.val :=
  ⟨fun _ _ => ⟨[], rfl⟩, ⟨0, by decide⟩, 13, by decide⟩

theorem test_witness_ReservedOffsetsHaveNoEffect :
    ∀ off ∈ ([0x0C, 0x18, 0x1C, 0x58, 0x7C] : List Offset),
      (off = 0x0C ∨ off = 0x18 ∨ off = 0x1C ∨ (0x58 ≤ off.toNat ∧ off.toNat % 4 = 0)) ∧
      (∃ rest, (withMoves ready [.host (.read off 4)]).events = .host (.read off 4) :: rest) ∧
      ∃ rest, (withMoves ready [.host (.write off 4 9)]).events = .host (.write off 4 9) :: rest :=
  fun off h => ⟨by revert off; decide, ⟨[], rfl⟩, [], rfl⟩

theorem test_witness_ReadsAreIdempotent :
    (∃ t, step (withMoves ready [.host (.read 0x10 4), .host (.read 0x10 4)]) = .next t ∧
      ¬(((0x10 : Offset) = 0x10 ∨ (0x10 : Offset) = 0x14) ∧
        (withMoves ready [.host (.read 0x10 4), .host (.read 0x10 4)]).pend ≠ .none)) ∧
    ∃ t, step (withMoves (pending ready .init) [.host (.read 0x14 4), .host (.read 0x14 4)]) = .next t :=
  ⟨⟨_, rfl, by simp [withMoves, ready, State.reset]⟩, _, rfl⟩

theorem test_witness_OperandRegisterWriters :
    (∃ t, step (ready.before (.host (.write 0x08 4 1))) = .next t ∧
      (∀ rest, (ready.before (.host (.write 0x08 4 1))).events ≠ .reset :: rest) ∧ t.keylen ≠ ready.keylen) ∧
    (∃ t, step (ready.before (.host (.write 0x54 4 1))) = .next t ∧ t.keys[(13 : Fin 14)] ≠ ready.keys[(13 : Fin 14)]) ∧
    (∃ t, step (ready.before (.host (.write 0x10 4 1))) = .next t ∧ t.dl ≠ ready.dl) ∧
    ∃ t, step (ready.before (.host (.write 0x14 4 1))) = .next t ∧ t.dr ≠ ready.dr :=
  ⟨⟨_, rfl, by simp [State.before], by decide⟩, ⟨_, rfl, by decide⟩, ⟨_, rfl, by decide⟩, _, rfl, by decide⟩

theorem test_witness_HostCannotReadKeyOrTables :
    SameButSecrets (withMoves ready [.host (.read 0x20 4)])
      { withMoves ready [.host (.read 0x20 4)] with keys := Vector.replicate 14 1, tables := Tables.undefined } ∧
    ∃ rest, (withMoves ready [.host (.read 0x20 4)]).events = .host (.read 0x20 4) :: rest := ⟨rfl, [], rfl⟩

theorem test_witness_RoundFunctionAddsXorsAdds :
    ∃ a b c d, romTables.readS 0 ((0xFFFFFFFF : Word).extractLsb' 24 8) = .ok a ∧
      romTables.readS 1 ((0xFFFFFFFF : Word).extractLsb' 16 8) = .ok b ∧
      romTables.readS 2 ((0xFFFFFFFF : Word).extractLsb' 8 8) = .ok c ∧
      romTables.readS 3 ((0xFFFFFFFF : Word).extractLsb' 0 8) = .ok d := by
  obtain ⟨a, ha⟩ := romTables_full.readS_ok 0 ((0xFFFFFFFF : Word).extractLsb' 24 8)
  obtain ⟨b, hb⟩ := romTables_full.readS_ok 1 ((0xFFFFFFFF : Word).extractLsb' 16 8)
  obtain ⟨c, hc⟩ := romTables_full.readS_ok 2 ((0xFFFFFFFF : Word).extractLsb' 8 8)
  obtain ⟨d, hd⟩ := romTables_full.readS_ok 3 ((0xFFFFFFFF : Word).extractLsb' 0 8)
  exact ⟨a, b, c, d, ha, hb, hc, hd⟩

theorem test_witness_EncipherAndDecipherFollowRounds :
    ∃ (p : Nat → Word) (f : Word → Word) (L R L' R' : Nat → Word),
      (∀ i : Fin 18, romTables.readP i = .ok (p i)) ∧ (∀ x, roundF romTables x = .ok (f x)) ∧
      (∀ i, i < 16 → L (i + 1) = R i ^^^ f (L i ^^^ p i) ∧ R (i + 1) = L i ^^^ p i) ∧
      (∀ i, i < 16 → L' (i + 1) = R' i ^^^ f (L' i ^^^ p (17 - i)) ∧ R' (i + 1) = L' i ^^^ p (17 - i)) := by
  choose p hp using romTables_full.readP_ok
  choose f hf using romTables_full.roundF_ok
  let q : Nat → Word := fun n => if h : n < 18 then p ⟨n, h⟩ else 0
  let run (key : Nat → Word) (n : Nat) : Word × Word :=
    Nat.rec (0, 0) (fun i lr => (lr.2 ^^^ f (lr.1 ^^^ key i), lr.1 ^^^ key i)) n
  refine ⟨q, f, fun n => (run q n).1, fun n => (run q n).2, fun n => (run (fun i => q (17 - i)) n).1,
    fun n => (run (fun i => q (17 - i)) n).2, fun i => ?_, hf, fun i _ => ⟨rfl, rfl⟩, fun i _ => ⟨rfl, rfl⟩⟩
  simp [q, hp]

theorem test_witness_DecipherInvertsEncipher :
    romTables.Full ∧ ∃ l' r', encipher romTables 0 0 = .ok (l', r') :=
  ⟨romTables_full, let ⟨lr, h⟩ := romTables_full.encipher_ok 0 0; ⟨lr.1, lr.2, h⟩⟩

theorem test_witness_DecryptAfterEncryptRestoresBlock :
    (∃ s a b c : State, engineStep s = .next a ∧ QuietRun a b ∧ engineStep b = .next c ∧
      s.pend = .encrypt ∧ b.pend = .decrypt) ∧
    ∃ s a b c : State, engineStep s = .next a ∧ QuietRun a b ∧ engineStep b = .next c ∧
      s.pend = .decrypt ∧ b.pend = .encrypt := by
  constructor
  · obtain ⟨x, hx⟩ := romTables_full.encipher_ok 0 0
    let s := pending (withMoves ready [cmdWrite 3]) .encrypt
    let a := (s.writeBlock x).complete
    let b := State.respond (State.accept { a with events := [] } .decrypt) .written
    obtain ⟨y, hy⟩ := romTables_full.decipher_ok b.dl b.dr
    exact ⟨s, a, b, _, engineStep_encrypt rfl hx,
      .move ⟨cmdWrite 3, [], rfl, .inr (.inl ⟨0x00, 4, 3, rfl, by decide, by decide, by simp⟩)⟩ rfl (.refl b), engineStep_decrypt rfl hy, rfl, rfl⟩
  · obtain ⟨x, hx⟩ := romTables_full.decipher_ok 0 0
    let s := pending (withMoves ready [cmdWrite 2]) .decrypt
    let a := (s.writeBlock x).complete
    let b := State.respond (State.accept { a with events := [] } .encrypt) .written
    obtain ⟨y, hy⟩ := romTables_full.encipher_ok b.dl b.dr
    exact ⟨s, a, b, _, engineStep_decrypt rfl hx,
      .move ⟨cmdWrite 2, [], rfl, .inr (.inl ⟨0x00, 4, 2, rfl, by decide, by decide, by simp⟩)⟩ rfl (.refl b), engineStep_encrypt rfl hy, rfl, rfl⟩

theorem test_witness_RomIsTheFractionOfPi :
    romWords[0]? = some 0x243F6A88 ∧ romWords[1041]? = some 0x3AC372E6 := by decide +kernel

theorem test_witness_KeyXorUsesCyclicGroups :
    ∀ len ∈ [1, 26, 56], 1 ≤ len ∧ len ≤ 56 ∧ romTables.Full ∧
      ∃ p b0 b1 b2 b3, romTables.readP 17 = .ok p ∧ keyByte (keyRegs alphabet) (68 % len) = .ok b0 ∧
        keyByte (keyRegs alphabet) (69 % len) = .ok b1 ∧ keyByte (keyRegs alphabet) (70 % len) = .ok b2 ∧
        keyByte (keyRegs alphabet) (71 % len) = .ok b3 := by
  intro len hlen
  obtain ⟨h1, h56⟩ : 1 ≤ len ∧ len ≤ 56 := by revert len; decide
  have below (n : Nat) : n % len < 56 := (Nat.mod_lt n h1).trans_le h56
  obtain ⟨p, hp⟩ := romTables_full.readP_ok 17
  obtain ⟨b0, h0⟩ := keyByte_ok (keyRegs alphabet) (below 68)
  obtain ⟨b1, h1'⟩ := keyByte_ok (keyRegs alphabet) (below 69)
  obtain ⟨b2, h2⟩ := keyByte_ok (keyRegs alphabet) (below 70)
  obtain ⟨b3, h3⟩ := keyByte_ok (keyRegs alphabet) (below 71)
  exact ⟨h1, h56, romTables_full, p, b0, b1, b2, b3, hp, h0, h1', h2, h3⟩

theorem test_witness_ExpansionWritesNextTwoWords :
    (∀ n ∈ [0, 16, 18, 1040], ∃ y, expandStep { tables := romTables, al := 0, ar := 0, index := n } = .ok y ∧
      n + 1 < 1042) ∧ ∃ tab, ksExpand romTables = .ok tab := by
  refine ⟨fun n hn => ?_, ?_⟩
  · obtain ⟨y, hy, _⟩ := expandStep_ok (x := { tables := romTables, al := 0, ar := 0, index := n }) romTables_full
    exact ⟨y, hy, by simp at hn; omega⟩
  · obtain ⟨x, hx, hxf⟩ := expandSteps_ok 9 (x := { tables := romTables, al := 0, ar := 0, index := 0 }) romTables_full
    obtain ⟨y, hy, _⟩ := expandSteps_ok 512 hxf
    exact ⟨y.tables, by simp only [ksExpand, hx, hy, ok_bind]⟩

theorem test_witness_ScheduleIgnoresBytesPastLength :
    ∃ keys keys' : Vector Word 14, keys ≠ keys' ∧ ∀ n, n < 26 → keyByte keys n = keyByte keys' n :=
  ⟨keyRegs alphabet, keyRegs (alphabet ++ [1, 2, 3]), by decide, by decide⟩

theorem test_witness_ScheduleDependsOnFirst72StreamBytes :
    ∀ n, n < 72 → keyByte (keyRegs [0x61]) (n % 1) = keyByte (keyRegs (List.replicate 56 0x61)) (n % 56) := by decide

theorem test_witness_LoadedKeyBytesAreRead :
    alphabet.length ≤ 56 ∧
    (∀ (j : Fin 14) (c : Fin 4), 4 * j.val + c.val < alphabet.length →
      ((keyRegs alphabet).set 6 0x797AFFFF)[j].extractLsb' (24 - 8 * c.val) 8 =
        (keyWordOfBytes alphabet j.val).extractLsb' (24 - 8 * c.val) 8) ∧
    alphabet[25]? = some 0x7A ∧ ∃ b, keyByte (keyRegs alphabet) 55 = .ok b :=
  ⟨by decide, by decide, by decide, keyByte_ok _ (by decide)⟩

theorem test_witness_EngineStepFrame :
    (∃ t, engineStep (pending ready .init) = .next t) ∧ (∃ t, engineStep (pending ready .encrypt) = .next t) ∧
    (∃ t, engineStep (pending ready .decrypt) = .next t) ∧ ∃ t, engineStep ready = .next t := by
  obtain ⟨t, ht, _⟩ := buildSchedule_ok (pending ready .init).keys (len := 26) (by decide) (by decide) romTables
  obtain ⟨x, hx⟩ := romTables_full.encipher_ok 0 0
  obtain ⟨y, hy⟩ := romTables_full.decipher_ok 0 0
  exact ⟨⟨_, engineStep_init rfl ht⟩, ⟨_, engineStep_encrypt rfl hx⟩, ⟨_, engineStep_decrypt rfl hy⟩, _, rfl⟩

theorem test_witness_BusyTransitions :
    (∃ t, step (ready.before (cmdWrite 1)) = .next t ∧ (ready.before (cmdWrite 1)).pend = .none ∧ t.pend ≠ .none) ∧
    (∃ t, step (pending ready .encrypt) = .next t ∧ (pending ready .encrypt).pend ≠ .none) ∧
    ∃ t, step ((pending ready .init).before .reset) = .next t ∧ ((pending ready .init).before .reset).pend ≠ .none := by
  obtain ⟨x, hx⟩ := romTables_full.encipher_ok 0 0
  exact ⟨⟨_, rfl, rfl, by decide⟩, ⟨_, (step_nil rfl).trans (engineStep_encrypt rfl hx), by decide⟩, _, rfl, by decide⟩

theorem test_witness_ReadyTransitions :
    (∃ t, step (ready.before (cmdWrite 1)) = .next t ∧ (ready.before (cmdWrite 1)).ready = true ∧ t.ready = false) ∧
    (∃ t, step (ready.before .reset) = .next t ∧ (ready.before .reset).ready = true ∧ t.ready = false) ∧
    ∃ s t, step s = .next t ∧ s.ready = false ∧ t.ready = true := by
  obtain ⟨t, ht, _⟩ := buildSchedule_ok State.reset.keys (len := 26) (by decide) (by decide) Tables.undefined
  exact ⟨⟨_, rfl, rfl, rfl⟩, ⟨_, rfl, rfl, rfl⟩, pending { State.reset with keylen := 26 } .init, _,
    (step_nil rfl).trans (engineStep_init rfl ht), rfl, rfl⟩

/-- Tables whose every word holds a value are not those of Reset. -/
theorem undefined_not_full : ¬Tables.undefined.Full := fun h => by
  have := h.1 0
  simp [Tables.undefined] at this

theorem test_witness_TablesChangeOnlyByInitOrReset :
    (∃ t, step (ready.before .reset) = .next t ∧ t.tables ≠ (ready.before .reset).tables) ∧
    ∃ s t, step s = .next t ∧ t.tables ≠ s.tables ∧ s.pend = .init := by
  obtain ⟨t, ht, hf⟩ := buildSchedule_ok State.reset.keys (len := 26) (by decide) (by decide) Tables.undefined
  refine ⟨⟨_, rfl, fun h => undefined_not_full ?_⟩, pending { State.reset with keylen := 26 } .init, _,
    (step_nil rfl).trans (engineStep_init rfl ht), fun h => undefined_not_full ?_, rfl⟩
  · rw [show Tables.undefined = romTables from h]
    exact romTables_full
  · rw [← show t = Tables.undefined from h]
    exact hf

theorem test_witness_WorkingRegistersAreUnobservable :
    (∃ t, step State.reset = .next t) ∧ (∃ f, step (State.reset.before (.host (.read 0x01 4))) = .fault f) ∧
    ∃ r, step (State.reset.before (.hostDuringReset (.read 0x04 4))) = .refused r := ⟨⟨_, rfl⟩, ⟨_, rfl⟩, _, rfl⟩

theorem test_witness_ResetValues : ∃ rest, (withMoves (pending ready .init) [.reset]).events = .reset :: rest := ⟨[], rfl⟩

theorem test_witness_TransformAfterResetSetsErrNoinit :
    ∀ w ∈ ([2, 3] : List Word), (w = 2 ∨ w = 3) ∧
      ∃ rest t, (withMoves ready [.reset, cmdWrite w]).events = .reset :: cmdWrite w :: rest ∧
        step (withMoves ready [.reset, cmdWrite w]) = .next t :=
  fun w h => ⟨by simpa using h, [], _, rfl, rfl⟩

/-- A machine after an INIT meets the invariant and holds a whole schedule. -/
theorem initialized_exists :
    ∃ s : State, s.Inv ∧ s.ready = true ∧ s.tables.IsSchedule ∧ s.tables.Whole ∧ s.pend = .encrypt ∧
      s.events = [cmdWrite 1] := by
  obtain ⟨t, ht, hf⟩ := buildSchedule_ok State.reset.keys (len := 26) (by decide) (by decide) Tables.undefined
  exact ⟨{ pending ready .encrypt with tables := t, events := [cmdWrite 1] },
    { readyFull := fun _ => hf, encryptReady := fun _ => rfl, decryptReady := fun _ => rfl,
      initCleared := fun h => by simp [pending] at h, initLegal := fun h => by simp [pending] at h },
    rfl, ⟨State.reset.keys, 26, by decide, ht⟩, .inr hf, rfl, rfl⟩

theorem test_witness_StepKeepsInvariant : ∃ s t : State, s.Inv ∧ s.ready = true ∧ step s = .next t := by
  obtain ⟨s, hi, hr, -, -, hp, he⟩ := initialized_exists
  obtain ⟨s', h'⟩ := writeReg_next (regAt 0x00) 1 { s with events := [] }
  exact ⟨s, s'.respond .written, hi, hr, by
    rw [step_cons he]
    show hostStep (.write 0x00 4 1) _ = _
    rw [hostStep_write rfl, h', onNext_next]⟩

theorem test_witness_ReadyMeansCompleteSchedule :
    ∃ s : State, s.Inv ∧ (s.ready = true → s.tables.IsSchedule) ∧ s.tables.Whole ∧ s.ready = true ∧
      ∃ t, step s = .next t := by
  obtain ⟨s, hi, hr, hs, hw, hp, he⟩ := initialized_exists
  obtain ⟨s', h'⟩ := writeReg_next (regAt 0x00) 1 { s with events := [] }
  exact ⟨s, hi, fun _ => hs, hw, hr, s'.respond .written, by
    rw [step_cons he]
    show hostStep (.write 0x00 4 1) _ = _
    rw [hostStep_write rfl, h', onNext_next]⟩

theorem test_witness_NoStepReadsUndefinedWords : ∃ s : State, s.Inv ∧ s.LegalSchedule ∧ s.pend = .encrypt := by
  obtain ⟨s, hi, -, -, -, hp, he⟩ := initialized_exists
  refine ⟨s, hi, fun e h => ?_, hp⟩
  rw [he, List.mem_singleton] at h
  subst h
  rfl

theorem test_witness_EveryAcceptedOperationCompletes :
    (∃ s : State, s.Inv ∧ s.LegalSchedule ∧ s.pend = .encrypt ∧ s.pend ≠ .none ∧ Event.reset ∉ s.events ∧ s.events ≠ []) ∧
    (∃ s : State, s.Inv ∧ s.LegalSchedule ∧ s.pend = .decrypt ∧ s.pend ≠ .none ∧ Event.reset ∉ s.events) ∧
    ∃ s : State, s.Inv ∧ s.LegalSchedule ∧ s.pend = .init ∧ s.pend ≠ .none ∧ Event.reset ∉ s.events := by
  refine ⟨?_, ⟨pending ready .decrypt, ?_, ?_, rfl, by decide, by simp [pending, ready, State.reset]⟩,
    ⟨{ pending State.reset .init with keylen := 1, events := [.host (.read 0x10 4), .engine] }, ?_, ?_, rfl, by decide,
      by simp⟩⟩
  · obtain ⟨s, hi, -, -, -, hp, he⟩ := initialized_exists
    refine ⟨s, hi, fun e h => ?_, hp, by simp [hp], by simp [he, cmdWrite], by simp [he]⟩
    rw [he, List.mem_singleton] at h
    subst h
    rfl
  · exact { readyFull := fun _ => romTables_full, encryptReady := fun _ => rfl, decryptReady := fun _ => rfl,
            initCleared := fun h => by simp [pending] at h, initLegal := fun h => by simp [pending] at h }
  · intro e h
    simp [pending, ready, State.reset] at h
  · exact { readyFull := fun h => by simp [pending, State.reset] at h, encryptReady := fun h => by simp [pending] at h,
            decryptReady := fun h => by simp [pending] at h, initCleared := fun _ => rfl, initLegal := fun _ => rfl }
  · intro e h
    simp only [List.mem_cons, List.not_mem_nil, or_false] at h
    rcases h with rfl | rfl <;> rfl

end Sys2Proof.Tests
end

section
/-! PROOFS. The constant ROM, the key bytes and the state after Reset (10_state.md). -/

namespace Sys2Proof.Proofs

open Sys2Proof.Machine Sys2Proof.Laws
open BitVec (extractLsb'_append_eq_left extractLsb'_append_eq_right extractLsb'_append_eq_of_le)

/-! ### The ROM as a list and as tables -/

theorem romWords_length : romWords.length = 1042 := by
  simp only [romWords, List.length_append, romP_length, romS0_length, romS1_length, romS2_length, romS3_length]

/-- A table of the ROM holds the words of the ROM from the place on where its listing starts. -/
theorem valued_eq_romWords {len start : Nat} {before ws after : List Word} (hws : ws.length = len)
    (hbefore : before.length = start) (hrom : before ++ (ws ++ after) = romWords) (i : Fin len) :
    (valued ws hws)[i] = romWords[start + i.val]? := by
  have hi : i.val < ws.length := hws ▸ i.isLt
  calc (valued ws hws)[i] = ws[i.val]? := by simp [valued, vectorOfList, hi]
    _ = (before ++ (ws ++ after))[start + i.val]? := by
      rw [← hbefore, List.getElem?_append_right (Nat.le_add_right ..), Nat.add_sub_cancel_left,
        List.getElem?_append_left hi]
    _ = romWords[start + i.val]? := by rw [hrom]

/-- P holds the first 18 words of the ROM (10_state.md R34). -/
theorem romTables_p (i : Fin 18) : romTables.p[i] = romWords[i.val]? := by
  have h := valued_eq_romWords (start := 0) (before := []) (after := romS0 ++ romS1 ++ romS2 ++ romS3) romP_length rfl
    (by simp only [romWords, List.nil_append, List.append_assoc]) i
  rwa [Nat.zero_add] at h

/-- S[b] holds the 256 words of the ROM from word 18 + 256 b on (10_state.md R34). -/
theorem romTables_s (b : Fin 4) (i : Fin 256) : romTables.s[b][i] = romWords[18 + 256 * b.val + i.val]? := by
  match b with
  | 0 =>
    exact valued_eq_romWords (before := romP) (after := romS1 ++ romS2 ++ romS3) romS0_length romP_length
      (by simp only [romWords, List.append_assoc]) i
  | 1 =>
    exact valued_eq_romWords (start := 274) (before := romP ++ romS0) (after := romS2 ++ romS3) romS1_length
      (by rw [List.length_append, romP_length, romS0_length]) (by simp only [romWords, List.append_assoc]) i
  | 2 =>
    exact valued_eq_romWords (start := 530) (before := romP ++ romS0 ++ romS1) (after := romS3) romS2_length
      (by simp only [List.length_append, romP_length, romS0_length, romS1_length])
      (by simp only [romWords, List.append_assoc]) i
  | 3 =>
    exact valued_eq_romWords (start := 786) (before := romP ++ romS0 ++ romS1 ++ romS2) (after := []) romS3_length
      (by simp only [List.length_append, romP_length, romS0_length, romS1_length, romS2_length])
      (by simp only [romWords, List.append_nil]) i

/-! ### The fraction of π to the ROM's last bit -/

/-- With m and m' terms Machin's integer sums for π, in units of 1 / (2^p guard), lie with their error between N and N + 1
units of 1 / 2^p above 3. The factor `guard` is the precision past p bits that leaves room for the error. -/
abbrev MachinBrackets (p guard m m' N : Nat) : Prop :=
  2 * (2 ^ p * guard) ≤ (5 ^ 2) ^ m ∧
  2 * (2 ^ p * guard) ≤ (239 ^ 2) ^ m' ∧
  1195 * ((3 * 2 ^ p + N) * guard) + 20 * arctanTail (2 ^ p * guard) (239 ^ 2) m' 0 + 12000 ≤
    3824 * arctanTail (2 ^ p * guard) (5 ^ 2) m 0 ∧
  3824 * arctanTail (2 ^ p * guard) (5 ^ 2) m 0 + 12000 <
    1195 * ((3 * 2 ^ p + N + 1) * guard) + 20 * arctanTail (2 ^ p * guard) (239 ^ 2) m' 0

/-- The bracketed number is the first p bits of the fraction of π. -/
theorem floor_fract_pi_of_machinBrackets {p guard m m' N : Nat} (hguard : 0 < guard)
    (h : MachinBrackets p guard m m' N) : ⌊Int.fract Real.pi * 2 ^ p⌋₊ = N := by
  obtain ⟨hm, hm', lower, upper⟩ := h
  obtain ⟨herr, herr'⟩ := abs_le.mp (pi_error hm hm')
  have hpos : (0 : ℝ) < guard := by exact_mod_cast hguard
  generalize arctanTail (2 ^ p * guard) (5 ^ 2) m 0 = a at *
  generalize arctanTail (2 ^ p * guard) (239 ^ 2) m' 0 = b at *
  have lower' : 1195 * ((3 * 2 ^ p + (N : ℝ)) * guard) + 20 * b + 12000 ≤ 3824 * a := by exact_mod_cast lower
  have upper' : 3824 * (a : ℝ) + 12000 < 1195 * ((3 * 2 ^ p + N + 1) * guard) + 20 * b := by exact_mod_cast upper
  push_cast at herr herr'
  rw [Nat.floor_eq_iff (mul_nonneg (Int.fract_nonneg _) (by positivity)), Int.fract, Real.floor_pi_eq_three,
    Int.cast_ofNat]
  constructor
  · refine le_of_mul_le_mul_right ?_ hpos
    linarith
  · refine lt_of_mul_lt_mul_right ?_ hpos.le
    linarith

/-- The binary digits of x up to place a are those up to place a + k without the last k. -/
theorem floor_mul_two_pow (x : ℝ) (a k : Nat) : ⌊x * 2 ^ a⌋₊ = ⌊x * 2 ^ (a + k)⌋₊ / 2 ^ k := by
  rw [← Nat.floor_div_natCast, Nat.cast_pow, Nat.cast_ofNat, pow_add, ← mul_assoc,
    mul_div_cancel_right₀ _ (by positivity)]

/-- 7210 and 2120 terms of the two series reach 64 bits past the ROM, and there Machin's sums bracket the ROM read as one
number. -/
theorem machinBrackets_romWords : MachinBrackets (32 * 1042) (2 ^ 64) 7210 2120 (numberOfWords romWords) := by
  decide +kernel

/-- The whole ROM, read as one number, is the first 32 * 1042 bits of the fraction of π. -/
theorem floor_fract_pi_eq_romWords : ⌊Int.fract Real.pi * 2 ^ (32 * 1042)⌋₊ = numberOfWords romWords :=
  floor_fract_pi_of_machinBrackets (by norm_num) machinBrackets_romWords

/-- Word n of the ROM is the n-th group of 32 bits of the fraction of π (10_state.md R34). -/
theorem romWords_eq_fract_pi {n : Nat} {w : Word} (hw : romWords[n]? = some w) :
    w.toNat = ⌊Int.fract Real.pi * 2 ^ (32 * (n + 1))⌋₊ % 2 ^ 32 := by
  have hn : n < 1042 := romWords_length ▸ (List.getElem?_eq_some_iff.mp hw).1
  have hplace : 32 * (n + 1) + 32 * (1042 - 1 - n) = 32 * 1042 := by omega
  rw [floor_mul_two_pow _ _ (32 * (1042 - 1 - n)), hplace, floor_fract_pi_eq_romWords,
    digit_numberOfWords romWords_length hw]

/-- Settles O34: the tables hold the list in order, and its words are the digits in base 2^32 of the one number that
Machin's formula shows to be the fraction of π. -/
theorem romIsTheFractionOfPi : Obligations.RomIsTheFractionOfPi :=
  ⟨romWords_length, romTables_p, romTables_s, fun _ _ => romWords_eq_fract_pi⟩

/-! ### The checks of the ROM -/

/-- The two checksums of 10_state.md R35. -/
theorem romWords_checksums :
    romWords.foldl (· + ·) 0 = 0x6BBF03AC ∧ romWords.foldl (· ^^^ ·) 0 = 0x6FFA520A := by
  decide +kernel

/-- The first word of P, the first of S and the last of the ROM (10_state.md R35). -/
theorem romWords_ends :
    romWords[0]? = some 0x243F6A88 ∧ romWords[18]? = some 0xD1310BA6 ∧ romWords[1041]? = some 0x3AC372E6 := by
  decide +kernel

/-- Settles O33, by evaluating the listing. -/
theorem romPassesItsChecks : Obligations.RomPassesItsChecks :=
  ⟨romWords_length, romWords_checksums.1, romWords_checksums.2, romWords_ends⟩

/-! ### Key bytes -/

theorem keyByte_of_lt (keys : Vector Word 14) {n : Nat} (h : n < 56) :
    keyByte keys n = .ok (wordByte (keys[n / 4]'(by omega)) (n % 4)) := by
  rw [keyByte, dif_pos h]

/-- Byte c of a word built of four bytes is the c-th of them: skip the 3 - c bytes below it. -/
theorem wordByte_wordOfBytes (b0 b1 b2 b3 : Byte) (c : Fin 4) :
    wordByte (wordOfBytes b0 b1 b2 b3) c.val = [b0, b1, b2, b3][c.val] := by
  match c with
  | 0 =>
    exact ((extractLsb'_append_eq_of_le (by decide)).trans (extractLsb'_append_eq_of_le (by decide))).trans
      extractLsb'_append_eq_left
  | 1 =>
    exact ((extractLsb'_append_eq_of_le (by decide)).trans (extractLsb'_append_eq_of_le (by decide))).trans
      extractLsb'_append_eq_right
  | 2 => exact (extractLsb'_append_eq_of_le (by decide)).trans extractLsb'_append_eq_right
  | 3 => exact extractLsb'_append_eq_right

/-- Key word j as loaded holds the key's bytes 4 j to 4 j + 3 in order, the first in bits 31:24 (20_memory.md R52). -/
theorem wordByte_keyWordOfBytes (k : List Byte) (j : Nat) (c : Fin 4) :
    wordByte (keyWordOfBytes k j) c.val = k.getD (4 * j + c.val) 0 := by
  refine (wordByte_wordOfBytes _ _ _ _ c).trans ?_
  match c with
  | 0 | 1 | 2 | 3 => rfl

/-- Byte n of a key is read from registers that agree with the loaded key in the positions below its length, whatever
the others hold (10_state.md R27; 20_memory.md R52). -/
theorem keyByte_of_loaded {k : List Byte} {keys : Vector Word 14} (hlen : k.length ≤ 56)
    (hload : ∀ (j : Fin 14) (c : Fin 4), 4 * j.val + c.val < k.length →
      wordByte keys[j] c.val = wordByte (keyWordOfBytes k j.val) c.val)
    {n : Nat} {b : Byte} (hb : k[n]? = some b) : keyByte keys n = .ok b := by
  obtain ⟨hn, -⟩ := List.getElem?_eq_some_iff.mp hb
  have hplace : 4 * (n / 4) + n % 4 = n := Nat.div_add_mod n 4
  have hbyte := hload ⟨n / 4, by omega⟩ ⟨n % 4, by omega⟩ (hplace.trans_lt hn)
  rw [wordByte_keyWordOfBytes, hplace, List.getD_eq_getElem?_getD, hb, Option.getD_some] at hbyte
  rw [keyByte_of_lt keys (hn.trans_le hlen)]
  exact congrArg Except.ok hbyte

/-- Settles O41: key byte n is byte n mod 4 of word n div 4, in the registers as in the loaded key. -/
theorem loadedKeyBytesAreRead : Obligations.LoadedKeyBytesAreRead := by
  refine ⟨fun keys n => keyByte_of_lt keys, fun k keys hlen hload n b => keyByte_of_loaded hlen hload, ?_⟩
  rintro k rfl
  decide

/-! ### Reset -/

theorem reset_keys_getElem (j : Fin 14) : State.reset.keys[j] = 0 :=
  Vector.getElem_replicate j.isLt

theorem undefined_p_getElem (i : Fin 18) : Tables.undefined.p[i] = none :=
  Vector.getElem_replicate i.isLt

theorem undefined_s_getElem (b : Fin 4) (x : Fin 256) : Tables.undefined.s[b][x] = none := by
  simp [Tables.undefined]

/-- No flag, not READY and not BUSY after Reset (10_state.md R40). -/
@[simp] theorem resetStep_status (s : State) : s.resetStep.status = 0 := by
  show statusWord ErrFlags.clear false false = 0
  decide

theorem step_reset {s : State} {rest : List Event} (h : s.events = .reset :: rest) :
    step s = .next (State.resetStep { s with events := rest }) :=
  step_cons h

/-- Settles O47: the step is Reset's, and it leaves each field at its reset value. -/
theorem resetValues : Obligations.ResetValues :=
  ⟨fun _ _ he => ⟨_, step_reset he, rfl, rfl, rfl, reset_keys_getElem, resetStep_status _, rfl, undefined_p_getElem,
      undefined_s_getElem⟩,
    rfl, rfl, rfl, reset_keys_getElem, resetStep_status .reset, rfl, undefined_p_getElem,
      undefined_s_getElem⟩

end Sys2Proof.Proofs
end

section
/-! PROOFS. The Host's accesses to the register window and the byte order of a block (20_memory.md). -/

namespace Sys2Proof.Proofs

open Sys2Proof.Machine

/-! ### The registers at the offsets (20_memory.md R54, R55) -/

@[simp] theorem regAt_offset (r : Reg) : regAt r.offset = some r := by
  cases r with
  | key j =>
    revert j
    decide
  | cmd | status | keylen | dl | dr => rfl

theorem regAt_of_toNat_eq_key {off : Offset} {j : Fin 14} (h : off.toNat = 0x20 + 4 * j.val) :
    regAt off = some (.key j) := by
  have hoff : off = (Reg.key j).offset :=
    BitVec.eq_of_toNat_eq (h.trans (Nat.mod_eq_of_lt (by omega)).symm)
  rw [hoff, regAt_offset]

/-- The offsets of the operand registers are word offsets, and these registers stand there. -/
theorem regAt_of_operand {off : Offset}
    (h : off = 0x08 ∨ off = 0x10 ∨ off = 0x14 ∨ ∃ j : Fin 14, off.toNat = 0x20 + 4 * j.val) :
    off.toNat % 4 = 0 ∧
      (regAt off = some .keylen ∨ regAt off = some .dl ∨ regAt off = some .dr ∨ ∃ j, regAt off = some (.key j)) := by
  rcases h with rfl | rfl | rfl | ⟨j, hj⟩
  · exact ⟨by decide, .inl (regAt_offset .keylen)⟩
  · exact ⟨by decide, .inr (.inl (regAt_offset .dl))⟩
  · exact ⟨by decide, .inr (.inr (.inl (regAt_offset .dr)))⟩
  · exact ⟨by omega, .inr (.inr (.inr ⟨j, regAt_of_toNat_eq_key hj⟩))⟩

/-- The word offsets of 20_memory.md R55 hold no register: a look at the window's 128 offsets. -/
theorem regAt_of_reserved {off : Offset}
    (h : off = 0x0C ∨ off = 0x18 ∨ off = 0x1C ∨ (0x58 ≤ off.toNat ∧ off.toNat % 4 = 0)) :
    off.toNat % 4 = 0 ∧ regAt off = none := by
  revert off
  decide

/-! ### A legal access as a step (20_memory.md R53 to R65) -/

theorem legal_of_word {a : Access} (hbytes : a.bytes = 4) (halign : a.off.toNat % 4 = 0) : a.legal = true := by
  simp [Access.legal, hbytes, halign]

/-- Where reading the register has no side effect, a word read only answers its value. -/
theorem step_read {s : State} {rest : List Event} {off : Offset} {r : Option Reg} {v : Word}
    (he : s.events = .host (.read off 4) :: rest) (halign : off.toNat % 4 = 0) (hr : regAt off = r)
    (hv : readReg r { s with events := rest } = (v, { s with events := rest })) :
    step s = .next { s with events := rest, resp := some (.data v) } :=
  calc step s = hostStep (.read off 4) { s with events := rest } := step_cons he
    _ = .next (State.respond { s with events := rest } (.data v)) := by
      rw [hostStep_read (legal_of_word rfl halign), hr, hv]

/-- A word write is the write of the register at its offset, then the response. -/
theorem step_write {s t : State} {rest : List Event} {off : Offset} {r : Option Reg} {v : Word}
    (he : s.events = .host (.write off 4 v) :: rest) (halign : off.toNat % 4 = 0) (hr : regAt off = r)
    (hw : writeReg r v { s with events := rest } = .next t) : step s = .next (t.respond .written) :=
  calc step s = hostStep (.write off 4 v) { s with events := rest } := step_cons he
    _ = .next (t.respond .written) := by rw [hostStep_write (legal_of_word rfl halign), hr, hw, onNext_next]

/-! ### Reads without a side effect -/

/-- Settles O23: CMD, a key register and KEYLEN are read through one rule, whether or not an operation pends. -/
theorem cmdKeyAndKeylenReads : Obligations.CmdKeyAndKeylenReads := by
  intro s rest off he
  refine ⟨?_, ?_, ?_⟩
  · rintro rfl
    exact step_read he (by decide) (regAt_offset .cmd) rfl
  · rintro ⟨j, hj⟩
    exact step_read he (by omega) (regAt_of_toNat_eq_key hj) rfl
  · rintro rfl
    exact step_read he (by decide) (regAt_offset .keylen) rfl

/-- Settles O24: no register stands at a reserved offset, so the access only gets its response. -/
theorem reservedOffsetsHaveNoEffect : Obligations.ReservedOffsetsHaveNoEffect := by
  intro s rest off hres
  obtain ⟨halign, hnone⟩ := regAt_of_reserved hres
  exact ⟨fun he => step_read he halign hnone rfl, fun v he => step_write he halign hnone rfl⟩

/-! ### STATUS (20_memory.md R58, R59) -/

/-- The bits of the STATUS word: the twelve bits of the fields, read off one by one, and zeros above them. -/
theorem statusWord_getLsbD (e : ErrFlags) (ready busy : Bool) (k : Nat) :
    (statusWord e ready busy).getLsbD k =
      (if k = 0 then busy else if k = 1 then ready else if k = 8 then e.errKeylen else if k = 9 then e.errNoinit
       else if k = 10 then e.errBusy else if k = 11 then e.errCmd else false) := by
  simp only [statusWord, BitVec.getLsbD_setWidth, BitVec.getLsbD_append, BitVec.getLsbD_ofBool, BitVec.ofNat_eq_ofNat,
    BitVec.getLsbD_zero]
  by_cases hk : k < 12
  · interval_cases k <;> simp
  · obtain ⟨m, rfl⟩ := Nat.exists_eq_add_of_le' (not_lt.mp hk)
    simp

theorem busy_eq_decide (s : State) : s.busy = decide (s.pend ≠ .none) := by
  rw [Bool.eq_iff_iff, State.busy_eq_true, decide_eq_true_iff]

/-- Settles O19: the read answers the STATUS word and its fields are the machine's. -/
theorem statusReadReturnsFlags : Obligations.StatusReadReturnsFlags := by
  intro s rest he
  refine ⟨s.status, step_read he (by decide) (regAt_offset .status) rfl, fun k => ?_⟩
  rw [State.status, statusWord_getLsbD, busy_eq_decide]

/-- Write 1 to clear, flag by flag. -/
theorem clearBy_eq_ite (e : ErrFlags) (v : Word) :
    e.clearBy v =
      { errKeylen := if v.getLsbD 8 then false else e.errKeylen
        errNoinit := if v.getLsbD 9 then false else e.errNoinit
        errBusy := if v.getLsbD 10 then false else e.errBusy
        errCmd := if v.getLsbD 11 then false else e.errCmd } := by
  have hclear (flag bit : Bool) : (flag && !bit) = if bit then false else flag := by cases bit <;> simp
  simp only [ErrFlags.clearBy, hclear]

/-- Settles O20: a STATUS write is `clearErrs`, whether or not an operation pends. -/
theorem statusWriteClearsOnesOnly : Obligations.StatusWriteClearsOnesOnly := by
  intro s rest v he
  rw [← clearBy_eq_ite]
  exact step_write he (by decide) (regAt_offset .status) rfl

/-! ### The operand registers (20_memory.md R61, R63, R65) -/

theorem writeReg_operand_busy {r : Option Reg} {s : State} (v : Word) (hp : s.pend ≠ .none)
    (hr : r = some .keylen ∨ r = some .dl ∨ r = some .dr ∨ ∃ j, r = some (.key j)) :
    writeReg r v s = .next (s.setErr .busy) := by
  rcases hr with rfl | rfl | rfl | ⟨j, rfl⟩ <;> exact congrArg _ (writeOperand_busy _ hp)

/-- A word write of an operand register while idle is the store. -/
theorem step_writeOperand_idle {s : State} {rest : List Event} {off : Offset} {r : Reg} {v : Word}
    (he : s.events = .host (.write off 4 v) :: rest) (halign : off.toNat % 4 = 0) (hr : regAt off = some r)
    {write : State → State} (hp : s.pend = .none)
    (hw : writeReg (some r) v { s with events := rest } = .next (writeOperand write { s with events := rest })) :
    step s = .next ((write { s with events := rest }).respond .written) :=
  step_write he halign hr (hw.trans (congrArg _ (writeOperand_idle write hp)))

/-- Settles O21: while busy all operand registers share one rule; while idle each write is its register's store. -/
theorem operandWritesStoreOrSetErrBusy : Obligations.OperandWritesStoreOrSetErrBusy := by
  intro s rest off v he
  refine ⟨fun hoff hp => ?_, fun hp => ⟨?_, ?_, ?_, fun j hj => ?_⟩⟩
  · obtain ⟨halign, hr⟩ := regAt_of_operand hoff
    exact step_write he halign rfl (writeReg_operand_busy v hp hr)
  · rintro rfl
    exact step_writeOperand_idle he (by decide) (regAt_offset .keylen) hp rfl
  · rintro rfl
    exact step_writeOperand_idle he (by decide) (regAt_offset .dl) hp rfl
  · rintro rfl
    exact step_writeOperand_idle he (by decide) (regAt_offset .dr) hp rfl
  · exact step_writeOperand_idle he (by omega) (regAt_of_toNat_eq_key hj) hp rfl

/-! ### The byte order of a block (20_memory.md R51) -/

/-- A word is its own four bytes, the first in bits 31:24. -/
theorem wordOfBytes_wordByte (w : Word) :
    wordOfBytes (wordByte w 0) (wordByte w 1) (wordByte w 2) (wordByte w 3) = w := by
  have h01 : wordByte w 0 ++ wordByte w 1 = w.extractLsb' 16 16 :=
    BitVec.extractLsb'_append_extractLsb'_eq_extractLsb' rfl
  have h012 : w.extractLsb' 16 16 ++ wordByte w 2 = w.extractLsb' 8 24 :=
    BitVec.extractLsb'_append_extractLsb'_eq_extractLsb' rfl
  rw [wordOfBytes, h01, h012]
  exact BitVec.extractLsb'_append_extractLsb'

/-- Unpacking a packed block gives its bytes back, byte by byte. -/
theorem bytesOfBlock_leftOfBytes_rightOfBytes (b : Vector Byte 8) :
    bytesOfBlock (leftOfBytes b) (rightOfBytes b) = b := by
  have hl (c : Fin 4) : wordByte (leftOfBytes b) c.val = [b[0], b[1], b[2], b[3]][c.val] :=
    wordByte_wordOfBytes _ _ _ _ c
  have hr (c : Fin 4) : wordByte (rightOfBytes b) c.val = [b[4], b[5], b[6], b[7]][c.val] :=
    wordByte_wordOfBytes _ _ _ _ c
  refine Vector.ext fun i hi => ?_
  match i with
  | 0 => exact hl 0
  | 1 => exact hl 1
  | 2 => exact hl 2
  | 3 => exact hl 3
  | 4 => exact hr 0
  | 5 => exact hr 1
  | 6 => exact hr 2
  | 7 => exact hr 3

/-- Settles O40: the bytes of a word and the word of four bytes are inverse, and a block is two words. -/
theorem blockBytesAreBigEndian : Obligations.BlockBytesAreBigEndian :=
  ⟨bytesOfBlock_leftOfBytes_rightOfBytes, fun l r => ⟨wordOfBytes_wordByte l, wordOfBytes_wordByte r⟩,
    fun _ => ⟨rfl, rfl⟩, fun _ => ⟨wordByte_wordOfBytes _ _ _ _ 0, wordByte_wordOfBytes _ _ _ _ 3⟩, by decide, by decide⟩

end Sys2Proof.Proofs
end

section
/-! PROOFS. The decoder and the encoder (30_encoding.md R80 to R85). -/

namespace Sys2Proof.Proofs

/-! ### The two fields of a word -/

/-- RSVD above OP is the whole word. -/
theorem rsvdField_append_opField (w : Word) : rsvdField w ++ opField w = w :=
  BitVec.extractLsb'_append_extractLsb'

@[simp] theorem rsvdField_encode (i : Instr) : rsvdField (encode i) = 0 :=
  BitVec.extractLsb'_append_eq_left

@[simp] theorem opField_encode (i : Instr) : opField (encode i) = opcode i :=
  BitVec.extractLsb'_append_eq_right

theorem eq_encode_iff {w : Word} {i : Instr} : w = encode i ↔ rsvdField w = 0 ∧ opField w = opcode i := by
  constructor
  · rintro rfl
    exact ⟨rsvdField_encode i, opField_encode i⟩
  · rintro ⟨hrsvd, hop⟩
    rw [← rsvdField_append_opField w, hrsvd, hop, encode]

/-- The commands take the OP values 0 to 3 (30_encoding.md R81). -/
theorem exists_opcode_iff (op : BitVec 4) : (∃ i, op = opcode i) ↔ op.toNat < 4 := by
  constructor
  · rintro ⟨i, rfl⟩
    cases i <;> decide
  · intro hlt
    match op, hlt with
    | 0, _ => exact ⟨.nop, rfl⟩
    | 1, _ => exact ⟨.init, rfl⟩
    | 2, _ => exact ⟨.encrypt, rfl⟩
    | 3, _ => exact ⟨.decrypt, rfl⟩

/-! ### What decode answers (30_encoding.md R83) -/

@[simp] theorem decode_encode (i : Instr) : decode (encode i) = .ok i := by
  cases i <;> rfl

theorem fields_of_decode_ok {w : Word} {i : Instr} (h : decode w = .ok i) :
    rsvdField w = 0 ∧ opField w = opcode i := by
  unfold decode at h
  split_ifs at h with hrsvd hop hop hop hop
  all_goals
    cases h
    exact ⟨not_not.mp hrsvd, hop⟩

/-- A command has exactly one word. -/
theorem decode_eq_ok_iff {w : Word} {i : Instr} : decode w = .ok i ↔ w = encode i :=
  ⟨fun h => eq_encode_iff.mpr (fields_of_decode_ok h), fun h => h ▸ decode_encode i⟩

theorem decode_eq_error_iff (w : Word) :
    (∃ r, decode w = .error r) ↔ rsvdField w ≠ 0 ∨ 4 ≤ (opField w).toNat :=
  calc (∃ r, decode w = .error r)
    _ ↔ ¬∃ i, decode w = .ok i := by cases decode w <;> simp
    _ ↔ ¬(rsvdField w = 0 ∧ (opField w).toNat < 4) := by
      simp only [decode_eq_ok_iff, eq_encode_iff, exists_and_left, exists_opcode_iff]
    _ ↔ rsvdField w ≠ 0 ∨ 4 ≤ (opField w).toNat := by rw [not_and_or, not_lt]

/-- Settles O2: a command's word is its encoding, and a word that is no command's has a field out of range. -/
theorem decodeIsExactMatch : Obligations.DecodeIsExactMatch := fun w =>
  ⟨decode_eq_ok_iff, decode_eq_ok_iff, decode_eq_ok_iff, decode_eq_ok_iff, decode_eq_error_iff w⟩

end Sys2Proof.Proofs
end

section
/-! PROOFS. The command interface: what a write to CMD does (40_command_interface.md R100 to R103). -/

namespace Sys2Proof.Proofs

open Sys2Proof.Machine

/-! ### A command word, reserved or some command's -/

theorem presentCommand_reserved {w : Word} (h : rsvdField w ≠ 0 ∨ 4 ≤ (opField w).toNat) (s : State) :
    presentCommand w s = .next (s.setErr .cmd) := by
  obtain ⟨r, hr⟩ := (decode_eq_error_iff w).mpr h
  rw [presentCommand, hr]

@[simp] theorem presentCommand_encode (i : Instr) (s : State) : presentCommand (encode i) s = exec i s := by
  rw [presentCommand, decode_encode]

theorem exists_eq_encode_of_not_reserved {w : Word} (h : ¬(rsvdField w ≠ 0 ∨ 4 ≤ (opField w).toNat)) :
    ∃ i, w = encode i := by
  rw [← decode_eq_error_iff] at h
  cases hd : decode w with
  | ok i => exact ⟨i, decode_eq_ok_iff.mp hd⟩
  | error r => exact absurd ⟨r, hd⟩ h

/-- The Host's write of a command word presents it and gets its completion (20_memory.md R57). -/
theorem step_cmdWrite {s : State} {rest : List Event} {w : Word} (he : s.events = cmdWrite w :: rest) :
    step s = onNext (presentCommand w { s with events := rest }) (·.respond .written) :=
  (step_cons he).trans (hostStep_write rfl)

/-! ### The acceptance checks of one command, in order (40_command_interface.md R100) -/

theorem keylenLegal_eq_true_iff (len : Byte) : keylenLegal len = true ↔ 1 ≤ len.toNat ∧ len.toNat ≤ 56 := by
  rw [keylenLegal, Bool.and_eq_true, decide_eq_true_iff, decide_eq_true_iff]

theorem execInit_eq_ite (s : State) :
    execInit s =
      if s.pend ≠ .none then .next (s.setErr .busy)
      else if ¬(1 ≤ s.keylen.toNat ∧ s.keylen.toNat ≤ 56) then .next (s.setErr .keylen)
      else .next (s.clearReady.accept .init) := by
  split_ifs with hp hk
  · exact execInit_busy hp
  · exact execInit_accepted (not_not.mp hp) ((keylenLegal_eq_true_iff _).mpr hk)
  · exact execInit_badLength (not_not.mp hp) (Bool.eq_false_iff.mpr (mt (keylenLegal_eq_true_iff _).mp hk))

theorem acceptTransform_eq_ite (p : Pend) (s : State) :
    acceptTransform p s =
      if s.pend ≠ .none then .next (s.setErr .busy)
      else if s.ready = false then .next (s.setErr .noinit)
      else .next (s.accept p) := by
  split_ifs with hp hr
  · exact acceptTransform_busy p hp
  · exact acceptTransform_noinit p (not_not.mp hp) hr
  · exact acceptTransform_accepted p (not_not.mp hp) (Bool.eq_true_of_not_eq_false hr)

/-! ### The statements -/

/-- Settles O5: a word is reserved or one of the four commands' words. At a command's word the tests of the chain on
the word evaluate, and what is left of the chain is that command's own checks. -/
theorem commandAcceptanceChecksInOrder : Obligations.CommandAcceptanceChecksInOrder := by
  refine ⟨fun w s rest he => step_cmdWrite he, fun w s => ?_⟩
  by_cases hres : rsvdField w ≠ 0 ∨ 4 ≤ (opField w).toNat
  · exact (presentCommand_reserved hres s).trans (if_pos hres).symm
  · obtain ⟨i, rfl⟩ := exists_eq_encode_of_not_reserved hres
    refine (presentCommand_encode i s).trans (Eq.trans ?_ (if_neg hres).symm)
    cases i with
    | nop => rfl
    | init => exact execInit_eq_ite s
    | encrypt => exact acceptTransform_eq_ite .encrypt s
    | decrypt => exact acceptTransform_eq_ite .decrypt s

/-- Settles O6: word 0 is NOP's, and NOP answers the state it finds. -/
theorem nopHasNoEffect : Obligations.NopHasNoEffect := by
  refine ⟨fun _ => rfl, fun s rest he => ?_⟩
  exact step_write he (by decide) (regAt_offset .cmd) (presentCommand_encode .nop _)

/-- Settles O7: the ERR_CMD check looks at the word alone, so BUSY does not enter. -/
theorem reservedWordSetsOnlyErrCmd : Obligations.ReservedWordSetsOnlyErrCmd := by
  intro s rest w he hres
  exact step_write he (by decide) (regAt_offset .cmd) (presentCommand_reserved hres _)

end Sys2Proof.Proofs
end

section
/-! PROOFS. The key schedule: the constant load, the key XOR and the expansion (41_keyschedule.md). -/

namespace Sys2Proof.Proofs

open Sys2Proof.Machine Sys2Proof.Claims

/-! ### The command and the constant load (R120 to R124) -/

/-- Settles O11: BUSY is the first of INIT's two checks, the key length the second. -/
theorem rejectedInitChangesOnlyItsFlag : Obligations.RejectedInitChangesOnlyItsFlag := by
  refine fun s => ⟨fun hp => execInit_busy hp, fun hp hlen => execInit_badLength hp ?_⟩
  exact Bool.eq_false_iff.mpr (mt (keylenLegal_eq_true_iff _).mp (by omega))

/-- Settles O32: the tables after the load are the ROM's, whatever they were. -/
theorem constantLoadOverwritesEveryWord : Obligations.ConstantLoadOverwritesEveryWord :=
  ⟨romWords_length, fun _ => ⟨romTables_p, romTables_s⟩⟩

/-! ### The key XOR by stream bytes (R125 to R127)

The machine keeps a position in the key and wraps it after each byte. Here the key bytes are an endless stream: its byte n
is the key's byte n mod len, and the XOR word of P[i] is made of stream bytes 4 i to 4 i + 3. -/

/-- Byte n of the cyclic key stream (R126). -/
def cyclicByte (keys : Vector Word 14) (len n : Nat) : Except Fault Byte := keyByte keys (n % len)

/-- The word of the four stream bytes from byte n on, the first in bits 31:24 (R126). -/
def streamGroup (stream : Nat → Except Fault Byte) (n : Nat) : Except Fault Word := do
  let b0 ← stream n
  let b1 ← stream (n + 1)
  let b2 ← stream (n + 2)
  let b3 ← stream (n + 3)
  .ok (b0 ++ b1 ++ b2 ++ b3)

/-- The key XOR over the P-table words of a list, with the stream from byte n on. -/
def keyXorStream (stream : Nat → Except Fault Byte) : List (Fin 18) → Nat → Tables → Except Fault Tables
  | [], _, t => .ok t
  | i :: is, n, t => do
    let d ← streamGroup stream n
    let p ← t.readP i
    keyXorStream stream is (n + 4) (t.writeP i (p ^^^ d))

/-- To shift four bytes in at the low end, one after the other, is to append them. -/
theorem shiftInBytes_eq_append (b0 b1 b2 b3 : Byte) :
    (((((0 : Word) <<< 8 ||| b0.setWidth 32) <<< 8 ||| b1.setWidth 32) <<< 8 ||| b2.setWidth 32) <<< 8) |||
      b3.setWidth 32 = b0 ++ b1 ++ b2 ++ b3 := by
  simp [← BitVec.setWidth_append_eq_shiftLeft_setWidth_or]

theorem drawGroup_eq_streamGroup (keys : Vector Word 14) (len n : Nat) :
    drawGroup keys len 4 (n % len) 0 = (do
      let d ← streamGroup (cyclicByte keys len) n
      .ok (d, (n + 4) % len)) := by
  simp only [drawGroup, streamGroup, cyclicByte, bind_assoc, ok_bind, Nat.mod_add_mod, Nat.add_assoc,
    shiftInBytes_eq_append, Nat.reduceAdd]

theorem keyXorFrom_eq_keyXorStream (keys : Vector Word 14) (len : Nat) (is : List (Fin 18)) (n : Nat) (t : Tables) :
    keyXorFrom keys len is (n % len) t = keyXorStream (cyclicByte keys len) is n t := by
  induction is generalizing n t with
  | nil => rfl
  | cons i is ih => simp only [keyXorFrom, keyXorStream, drawGroup_eq_streamGroup, bind_assoc, ok_bind, ih]

theorem ksKeyXor_eq_keyXorStream (keys : Vector Word 14) (len : Nat) (t : Tables) :
    ksKeyXor keys len t = keyXorStream (cyclicByte keys len) (List.finRange 18) 0 t := by
  rw [← keyXorFrom_eq_keyXorStream, Nat.zero_mod]
  rfl

theorem keyXorStream_cons_eq_ok {stream : Nat → Except Fault Byte} {i : Fin 18} {is : List (Fin 18)} {n : Nat}
    {t t' : Tables} :
    keyXorStream stream (i :: is) n t = .ok t' ↔
      ∃ d, streamGroup stream n = .ok d ∧ ∃ p, t.readP i = .ok p ∧
        keyXorStream stream is (n + 4) (t.writeP i (p ^^^ d)) = .ok t' := by
  simp only [keyXorStream, bind_eq_ok]

/-- The key XOR writes no S word and no P word outside its list. -/
theorem keyXorStream_frame {stream : Nat → Except Fault Byte} {is : List (Fin 18)} {n : Nat} {t t' : Tables}
    (h : keyXorStream stream is n t = .ok t') : t'.s = t.s ∧ ∀ j ∉ is, t'.readP j = t.readP j := by
  induction is generalizing n t with
  | nil =>
    cases h
    exact ⟨rfl, fun _ _ => rfl⟩
  | cons i is ih =>
    obtain ⟨d, -, p, -, hrest⟩ := keyXorStream_cons_eq_ok.mp h
    obtain ⟨hs, hp⟩ := ih hrest
    refine ⟨hs, fun j hj => ?_⟩
    exact (hp j (List.not_mem_of_not_mem_cons hj)).trans
      (t.readP_writeP_other _ (List.ne_of_not_mem_cons hj).symm)

/-- The word at place m of a list without repetition takes the m-th group, whatever the words at other places. -/
theorem keyXorStream_readP {stream : Nat → Except Fault Byte} {is : List (Fin 18)} {n : Nat} {t t' : Tables}
    (h : keyXorStream stream is n t = .ok t') (hdup : is.Nodup) {m : Nat} (hm : m < is.length) {p d : Word}
    (hp : t.readP is[m] = .ok p) (hd : streamGroup stream (n + 4 * m) = .ok d) :
    t'.readP is[m] = .ok (p ^^^ d) := by
  induction is generalizing n t m with
  | nil => exact absurd hm (Nat.not_lt_zero m)
  | cons i is ih =>
    obtain ⟨d₀, hd₀, p₀, hp₀, hrest⟩ := keyXorStream_cons_eq_ok.mp h
    obtain ⟨hi, hdup'⟩ := List.nodup_cons.mp hdup
    cases m with
    | zero =>
      obtain rfl : p₀ = p := Except.ok.inj (hp₀.symm.trans hp)
      obtain rfl : d₀ = d := Except.ok.inj (hd₀.symm.trans hd)
      exact ((keyXorStream_frame hrest).2 i hi).trans (t.readP_writeP_same i _)
    | succ m =>
      have hm' : m < is.length := Nat.lt_of_succ_lt_succ hm
      have hne : i ≠ is[m] := fun he => hi (he ▸ List.getElem_mem hm')
      exact ih hrest hdup' hm' ((t.readP_writeP_other _ hne).trans hp) (by rwa [Nat.add_assoc, Nat.add_comm 4])

/-- Settles O35: P[i] stands at place i of the words the key XOR goes through, so it takes group i of the stream. -/
theorem keyXorUsesCyclicGroups : Obligations.KeyXorUsesCyclicGroups := by
  intro keys len t hpos h56 hfull
  obtain ⟨t', ht', -⟩ := keyXorFrom_ok keys hpos h56 (List.finRange 18) hpos hfull
  have hstream : keyXorStream (cyclicByte keys len) (List.finRange 18) 0 t = .ok t' :=
    (ksKeyXor_eq_keyXorStream keys len t).symm.trans ht'
  refine ⟨t', ht', (keyXorStream_frame hstream).1, fun i p b0 b1 b2 b3 hp h0 h1 h2 h3 => ?_⟩
  have hd : streamGroup (cyclicByte keys len) (0 + 4 * i.val) = .ok (b0 ++ b1 ++ b2 ++ b3) := by
    simp only [streamGroup, cyclicByte, Nat.zero_add, h0, h1, h2, h3, ok_bind]
  have hi : i.val < (List.finRange 18).length := by simp
  have hget : (List.finRange 18)[i.val] = i := by simp
  have hword := keyXorStream_readP hstream (List.nodup_finRange 18) hi (by rwa [hget]) hd
  rwa [hget] at hword

/-! ### What the schedule depends on (R133, R134) -/

theorem streamGroup_congr {stream stream' : Nat → Except Fault Byte} {n : Nat}
    (h : ∀ m, n ≤ m → m < n + 4 → stream m = stream' m) : streamGroup stream n = streamGroup stream' n := by
  rw [streamGroup, streamGroup, h n (by omega) (by omega), h (n + 1) (by omega) (by omega),
    h (n + 2) (by omega) (by omega), h (n + 3) (by omega) (by omega)]

/-- The key XOR draws four stream bytes for each word of its list and no other. -/
theorem keyXorStream_congr {stream stream' : Nat → Except Fault Byte} {is : List (Fin 18)} {n : Nat}
    (h : ∀ m, n ≤ m → m < n + 4 * is.length → stream m = stream' m) (t : Tables) :
    keyXorStream stream is n t = keyXorStream stream' is n t := by
  induction is generalizing n t with
  | nil => rfl
  | cons i is ih =>
    rw [List.length_cons] at h
    have hgroup : streamGroup stream n = streamGroup stream' n :=
      streamGroup_congr fun m hle hlt => h m hle (by omega)
    have hrest (t : Tables) : keyXorStream stream is (n + 4) t = keyXorStream stream' is (n + 4) t :=
      ih (fun m hle hlt => h m (by omega) (by omega)) t
    simp only [keyXorStream, hgroup, hrest]

/-- Settles O39: the 18 groups of the key XOR are the first 72 bytes of the stream, and no later phase reads the key. -/
theorem scheduleDependsOnFirst72StreamBytes : Obligations.ScheduleDependsOnFirst72StreamBytes := by
  intro keys keys' len len' old old' _ _ _ _ hagree
  have hxor : ksKeyXor keys len romTables = ksKeyXor keys' len' romTables := by
    rw [ksKeyXor_eq_keyXorStream, ksKeyXor_eq_keyXorStream]
    exact keyXorStream_congr (fun m _ hm => hagree m (by simpa using hm)) romTables
  rw [buildSchedule, buildSchedule, ksLoad, ksLoad, hxor]

/-- Settles O38: registers that agree below the length have the same cyclic stream, in its first 72 bytes too. -/
theorem scheduleIgnoresBytesPastLength : Obligations.ScheduleIgnoresBytesPastLength := by
  intro keys keys' len old old' h1 h56 hagree
  exact scheduleDependsOnFirst72StreamBytes keys keys' len len old old' h1 h56 h1 h56
    fun n _ => hagree (n % len) (Nat.mod_lt n h1)

/-! ### The expansion as loops (R128 to R130)

The machine counts the words it writes; the loops name them. A piece of loop code does c encryptions from word n on when
it agrees with `expandSteps c` there. Such pieces run one after the other, and so loops are made of loops. -/

/-- What the loops of the statement carry: the tables and the running block. -/
abbrev LoopState := Tables × Word × Word

/-- The expansion with the tables and the running block of a loop, its next word being word n. -/
def expansionAt (n : Nat) (x : LoopState) : Expansion :=
  { tables := x.1, al := x.2.1, ar := x.2.2, index := n }

/-- `f` does the c encryptions of the expansion that write words n to n + 2 c - 1. -/
def DoesEncryptions (c n : Nat) (f : LoopState → Except Fault LoopState) : Prop :=
  ∀ x, expandSteps c (expansionAt n x) = do
    let y ← f x
    .ok (expansionAt (n + 2 * c) y)

theorem expandSteps_add (c d : Nat) (x : Expansion) : expandSteps (c + d) x = expandSteps c x >>= expandSteps d := by
  induction c generalizing x with
  | zero => rw [Nat.zero_add, expandSteps, ok_bind]
  | succ c ih => simp only [Nat.succ_add, expandSteps, ih, bind_assoc]

theorem doesEncryptions_one {n : Nat} {put : Tables → Word × Word → Tables}
    (hput : ∀ t lr, put t lr = (t.writeWord n lr.1).writeWord (n + 1) lr.2) :
    DoesEncryptions 1 n (fun x => do
      let lr ← encipher x.1 x.2.1 x.2.2
      .ok (put x.1 lr, lr)) := by
  intro x
  simp only [expandSteps, expandStep, expansionAt, bind_assoc, ok_bind, hput, Nat.mul_one]

theorem DoesEncryptions.bind {c d n : Nat} {f g : LoopState → Except Fault LoopState}
    (hf : DoesEncryptions c n f) (hg : DoesEncryptions d (n + 2 * c) g) :
    DoesEncryptions (c + d) n fun x => f x >>= g := by
  intro x
  simp only [expandSteps_add, hf x, bind_assoc, ok_bind, hg _, Nat.mul_add, Nat.add_assoc]

/-- A loop of m passes, the k-th of which does c encryptions on the 2 c words after those of the passes before. -/
theorem doesEncryptions_foldlM {α : Type} {c m n : Nat} {f : LoopState → α → Except Fault LoopState} {items : List α}
    (hm : items.length = m)
    (h : ∀ k (hk : k < items.length), DoesEncryptions c (n + 2 * c * k) (f · items[k])) :
    DoesEncryptions (c * m) n (items.foldlM f) := by
  subst hm
  induction items generalizing n with
  | nil => exact fun _ => rfl
  | cons a items ih =>
    have hrest : DoesEncryptions (c * items.length) (n + 2 * c) (items.foldlM f) := ih fun k hk => by
      have hpass := h (k + 1) (Nat.succ_lt_succ hk)
      rwa [Nat.mul_succ, Nat.add_comm (2 * c * k), ← Nat.add_assoc] at hpass
    rw [List.length_cons, Nat.mul_succ, Nat.add_comm]
    exact (h 0 (Nat.zero_lt_succ _)).bind hrest

/-- A loop of m passes, the k-th of which does one encryption and writes its halves to words n + 2 k and n + 2 k + 1. -/
theorem doesEncryptions_loop {α : Type} {m n : Nat} {items : List α} (hm : items.length = m)
    (put : α → Tables → Word × Word → Tables)
    (hput : ∀ k (hk : k < items.length) t lr,
      put items[k] t lr = (t.writeWord (n + 2 * k) lr.1).writeWord (n + 2 * k + 1) lr.2) :
    DoesEncryptions m n (items.foldlM fun x a => do
      let lr ← encipher x.1 x.2.1 x.2.2
      .ok (put a x.1 lr, lr)) := by
  rw [← Nat.one_mul m]
  exact doesEncryptions_foldlM hm fun k hk => doesEncryptions_one (hput k hk)

/-! ### The words the loops write (10_state.md R34) -/

theorem writeP_eq_writeWord (t : Tables) (i : Fin 18) (v : Word) : t.writeP i v = t.writeWord i.val v := by
  rw [Tables.writeWord, dif_pos i.isLt]

theorem writeS_eq_writeWord (t : Tables) (b : Fin 4) (x : Fin 256) (v : Word) :
    t.writeS b x v = t.writeWord (18 + 256 * b.val + x.val) v := by
  have hb : (18 + 256 * b.val + x.val - 18) / 256 = b.val := by omega
  have hx : (18 + 256 * b.val + x.val - 18) % 256 = x.val := by omega
  rw [Tables.writeWord, dif_neg (by omega), dif_pos (by omega)]
  simp only [hb, hx]

/-- The pairs of P words that the passes of the P loop write (R128). -/
def pLoopWords : List (Fin 18 × Fin 18) :=
  [(0, 1), (2, 3), (4, 5), (6, 7), (8, 9), (10, 11), (12, 13), (14, 15), (16, 17)]

theorem pLoopWords_getElem : ∀ k (hk : k < pLoopWords.length),
    pLoopWords[k].1.val = 2 * k ∧ pLoopWords[k].2.val = 2 * k + 1 := by
  decide

/-- The P loop does the 9 encryptions from (0, 0) that write words 0 to 17 (R128). -/
theorem expandSteps_eq_expandPLoop (t : Tables) :
    expandSteps 9 (expansionAt 0 (t, 0, 0)) = (do
      let y ← expandPLoop t
      .ok (expansionAt 18 y)) := by
  refine doesEncryptions_loop (items := pLoopWords) rfl (fun i t lr => (t.writeP i.1 lr.1).writeP i.2 lr.2)
    (fun k hk t lr => ?_) (t, 0, 0)
  obtain ⟨hfst, hsnd⟩ := pLoopWords_getElem k hk
  rw [writeP_eq_writeWord, writeP_eq_writeWord, hfst, hsnd, Nat.zero_add]

/-- The inner loop of box b does the 128 encryptions that write its 256 words (R129). -/
theorem doesEncryptions_box (b : Fin 4) :
    DoesEncryptions 128 (18 + 256 * b.val) ((List.finRange 128).foldlM fun x k => do
      let lr ← encipher x.1 x.2.1 x.2.2
      .ok ((x.1.writeS b ⟨2 * k.val, by omega⟩ lr.1).writeS b ⟨2 * k.val + 1, by omega⟩ lr.2, lr)) := by
  refine doesEncryptions_loop List.length_finRange
    (fun k t lr => (t.writeS b ⟨2 * k.val, by omega⟩ lr.1).writeS b ⟨2 * k.val + 1, by omega⟩ lr.2) fun k hk t lr => ?_
  simp only [writeS_eq_writeWord, List.getElem_finRange, Fin.val_cast, Nat.add_assoc]

/-- The S loops do the 512 encryptions that write words 18 to 1041 (R129). -/
theorem doesEncryptions_expandSLoop : DoesEncryptions 512 18 expandSLoop := by
  refine doesEncryptions_foldlM (c := 128) (m := 4) List.length_finRange fun b hb => ?_
  rw [List.getElem_finRange]
  exact doesEncryptions_box (Fin.cast List.length_finRange ⟨b, hb⟩)

/-- Settles O36: the P loop does the first 9 encryptions of the expansion, the S loops the 512 from word 18 on. -/
theorem expansionIsTheSequentialLoops : Obligations.ExpansionIsTheSequentialLoops := by
  intro t
  calc ksExpand t
    _ = (do
        let x ← expandSteps 9 (expansionAt 0 (t, 0, 0))
        let y ← expandSteps 512 x
        .ok y.tables) := rfl
    _ = (do
        let x ← expandPLoop t
        let y ← expandSLoop x
        .ok (expansionAt 1042 y).tables) := by
      simp only [expandSteps_eq_expandPLoop, doesEncryptions_expandSLoop _, bind_assoc, ok_bind]

end Sys2Proof.Proofs
end

section
/-! PROOFS. The cipher: the round function, Encipher and Decipher, and the commands ENCRYPT and DECRYPT in turn
(42_feistel.md). -/

namespace Sys2Proof.Proofs

open Sys2Proof.Machine Sys2Proof.Claims

/-! ### The round function and the rounds (R140 to R144) -/

/-- Settles O28: the reads are given, and what F does with them is the statement's expression. -/
theorem roundFunctionAddsXorsAdds : Obligations.RoundFunctionAddsXorsAdds := by
  intro t x a b c d ha hb hc hd
  simp only [roundF, wordByte, ha, hb, hc, hd, ok_bind]

/-- Halves that obey the equations of R144, with subkey P[key k] in round k, are what the rounds compute. -/
theorem feistelRounds_of_halves {t : Tables} {p : Nat → Word} {f : Word → Word} {L R : Nat → Word}
    {is : List (Fin 18)} {key : Nat → Nat} (hp : ∀ i : Fin 18, t.readP i = .ok (p i))
    (hf : ∀ x, roundF t x = .ok (f x)) (hkey : ∀ k (hk : k < is.length), is[k].val = key k)
    (hround : ∀ k, k < is.length → L (k + 1) = R k ^^^ f (L k ^^^ p (key k)) ∧ R (k + 1) = L k ^^^ p (key k)) :
    feistelRounds t is (L 0, R 0) = .ok (L is.length, R is.length) := by
  induction is generalizing L R key with
  | nil => rfl
  | cons i is ih =>
    have hi : i.val = key 0 := hkey 0 (Nat.zero_lt_succ _)
    obtain ⟨hL, hR⟩ := hround 0 (Nat.zero_lt_succ _)
    have hfirst : feistelRound t (p i) (L 0, R 0) = .ok (L 1, R 1) := by
      simp only [feistelRound, hf, ok_bind, hi, hL, hR]
    have hrest : feistelRounds t is (L 1, R 1) = .ok (L (is.length + 1), R (is.length + 1)) :=
      ih (L := fun k => L (k + 1)) (R := fun k => R (k + 1)) (key := fun k => key (k + 1))
        (fun k hk => hkey (k + 1) (Nat.succ_lt_succ hk)) fun k hk => hround (k + 1) (Nat.succ_lt_succ hk)
    simp only [feistelRounds, hp, ok_bind, hfirst, hrest, List.length_cons]

/-- The last halves unswapped and whitened are what the rounds and the whitening compute. -/
theorem rounds_whiten_of_halves {t : Tables} {p : Nat → Word} {f : Word → Word} {L R : Nat → Word}
    {is : List (Fin 18)} {ir il : Fin 18} {key : Nat → Nat} (hp : ∀ i : Fin 18, t.readP i = .ok (p i))
    (hf : ∀ x, roundF t x = .ok (f x)) (hkey : ∀ k (hk : k < is.length), is[k].val = key k)
    (hround : ∀ k, k < is.length → L (k + 1) = R k ^^^ f (L k ^^^ p (key k)) ∧ R (k + 1) = L k ^^^ p (key k)) :
    (feistelRounds t is (L 0, R 0) >>= whiten t ir il) =
      .ok (R is.length ^^^ p il, L is.length ^^^ p ir) := by
  simp only [feistelRounds_of_halves hp hf hkey hround, whiten, hp, ok_bind]

/-- Settles O29: round k uses subkey k in Encipher and 17 - k in Decipher. -/
theorem encipherAndDecipherFollowRounds : Obligations.EncipherAndDecipherFollowRounds := by
  intro t p f L R hp hf
  constructor
  · exact fun hround => rounds_whiten_of_halves (key := fun k => k) hp hf (by decide) hround
  · exact fun hround => rounds_whiten_of_halves (key := fun k => 17 - k) hp hf (by decide) hround

/-! ### Decipher is Encipher backwards (R145)

Let x be the left half of a round after its subkey is in. Three x in a row obey `next = last ^^^ F(x) ^^^ subkey`, and
this recurrence reads the same from either end. -/

/-- From two x in a row, (u, v), to the next two, under subkey P[i]. -/
def link (t : Tables) (uv : Word × Word) (i : Fin 18) : Except Fault (Word × Word) := do
  let f ← roundF t uv.2
  let p ← t.readP i
  .ok (uv.2, uv.1 ^^^ f ^^^ p)

/-- Links under the subkeys of a list, in order. -/
def links (t : Tables) (is : List (Fin 18)) (uv : Word × Word) : Except Fault (Word × Word) := is.foldlM (link t) uv

theorem link_eq_ok {t : Tables} {i : Fin 18} {a b : Word × Word} :
    link t a i = .ok b ↔ ∃ f p, roundF t a.2 = .ok f ∧ t.readP i = .ok p ∧ (a.2, a.1 ^^^ f ^^^ p) = b := by
  simp only [link, bind_eq_ok, Except.ok.injEq, exists_and_left]

theorem links_cons_eq_ok {t : Tables} {i : Fin 18} {is : List (Fin 18)} {a c : Word × Word} :
    links t (i :: is) a = .ok c ↔ ∃ b, link t a i = .ok b ∧ links t is b = .ok c := by
  rw [links, List.foldlM_cons, bind_eq_ok]
  rfl

theorem links_singleton (t : Tables) (i : Fin 18) (a : Word × Word) : links t [i] a = link t a i := by
  rw [links, List.foldlM_cons]
  exact bind_pure _

theorem links_concat_eq_ok {t : Tables} {i : Fin 18} {is : List (Fin 18)} {a c : Word × Word} :
    links t (is ++ [i]) a = .ok c ↔ ∃ b, links t is a = .ok b ∧ link t b i = .ok c := by
  simp only [links, List.foldlM_append, List.foldlM_cons, List.foldlM_nil, bind_eq_ok, bind_pure]

/-- A link is its own inverse up to the order of its two ends: F is taken of the same word, so the XORs cancel. -/
theorem link_swap_of_link {t : Tables} {i : Fin 18} {a b : Word × Word} (h : link t a i = .ok b) :
    link t b.swap i = .ok a.swap := by
  obtain ⟨f, p, hf, hp, rfl⟩ := link_eq_ok.mp h
  refine link_eq_ok.mpr ⟨f, p, hf, hp, Prod.ext rfl ?_⟩
  show a.1 ^^^ f ^^^ p ^^^ f ^^^ p = a.1
  rw [BitVec.xor_assoc _ f p, BitVec.xor_assoc _ f p, xor_cancel_right]

theorem link_swap {t : Tables} {i : Fin 18} {a b : Word × Word} :
    link t a i = .ok b ↔ link t b.swap i = .ok a.swap :=
  ⟨link_swap_of_link, link_swap_of_link⟩

/-- Links are undone by the same links in the opposite order. -/
theorem links_reverse {t : Tables} {is : List (Fin 18)} {a c : Word × Word} :
    links t is a = .ok c ↔ links t is.reverse c.swap = .ok a.swap := by
  induction is generalizing a with
  | nil =>
    show Except.ok a = Except.ok c ↔ Except.ok c.swap = Except.ok a.swap
    rw [Except.ok.injEq, Except.ok.injEq, Prod.swap_inj, eq_comm]
  | cons i is ih =>
    calc links t (i :: is) a = .ok c
      _ ↔ ∃ b, link t a i = .ok b ∧ links t is b = .ok c := links_cons_eq_ok
      _ ↔ ∃ b : Word × Word, links t is.reverse c.swap = .ok b.swap ∧ link t b.swap i = .ok a.swap := by
        simp only [ih, link_swap (a := a), and_comm]
      _ ↔ ∃ b, links t is.reverse c.swap = .ok b ∧ link t b i = .ok a.swap :=
        (Prod.swap_surjective.exists (p := fun b => links t is.reverse c.swap = .ok b ∧ link t b i = .ok a.swap)).symm
      _ ↔ links t (i :: is).reverse c.swap = .ok a.swap := by rw [List.reverse_cons, links_concat_eq_ok]

theorem feistelRounds_nil (t : Tables) (lr : Word × Word) : feistelRounds t [] lr = .ok lr := rfl

theorem feistelRounds_cons_bind_eq_ok {β : Type} {t : Tables} {i : Fin 18} {is : List (Fin 18)} {l r : Word}
    {k : Word × Word → Except Fault β} {out : β} :
    (feistelRounds t (i :: is) (l, r) >>= k) = .ok out ↔
      ∃ p f, t.readP i = .ok p ∧ roundF t (l ^^^ p) = .ok f ∧
        (feistelRounds t is (r ^^^ f, l ^^^ p) >>= k) = .ok out := by
  simp only [feistelRounds, feistelRound, bind_assoc, bind_eq_ok, ok_bind, exists_and_left]

theorem whiten_eq_ok {t : Tables} {ir il : Fin 18} {l r : Word} {out : Word × Word} :
    whiten t ir il (l, r) = .ok out ↔
      ∃ p q, t.readP ir = .ok p ∧ t.readP il = .ok q ∧ (r ^^^ q, l ^^^ p) = out := by
  simp only [whiten, bind_eq_ok, Except.ok.injEq, exists_and_left]

/-- Rounds and whitening as links: P[i] leads to the first x, one link per further subkey, and P[il] leads out. -/
theorem rounds_whiten_eq_ok {t : Tables} {i ir il : Fin 18} {is : List (Fin 18)} {l r l' r' : Word} :
    (feistelRounds t (i :: is) (l, r) >>= whiten t ir il) = .ok (l', r') ↔
      ∃ p q, t.readP i = .ok p ∧ t.readP il = .ok q ∧ links t (is ++ [ir]) (r, l ^^^ p) = .ok (l' ^^^ q, r') := by
  induction is generalizing i l r with
  | nil =>
    simp only [feistelRounds_cons_bind_eq_ok, feistelRounds_nil, ok_bind, whiten_eq_ok, List.nil_append,
      links_singleton, link_eq_ok, Prod.mk.injEq, xor_eq_iff_left_eq (l ^^^ _)]
    constructor
    · rintro ⟨p, f, hp, hf, p', q, hp', hq, h⟩
      exact ⟨p, q, hp, hq, f, p', hf, hp', h⟩
    · rintro ⟨p, q, hp, hq, f, p', hf, hp', h⟩
      exact ⟨p, f, hp, hf, p', q, hp', hq, h⟩
  | cons j is ih =>
    simp only [feistelRounds_cons_bind_eq_ok (is := j :: is), ih, List.cons_append, links_cons_eq_ok, link_eq_ok]
    constructor
    · rintro ⟨p, f, hp, hf, pj, q, hpj, hq, h⟩
      exact ⟨p, q, hp, hq, _, ⟨f, pj, hf, hpj, rfl⟩, h⟩
    · rintro ⟨p, q, hp, hq, _, ⟨f, pj, hf, hpj, rfl⟩, h⟩
      exact ⟨p, f, hp, hf, pj, q, hpj, hq, h⟩

theorem encipher_eq_ok {t : Tables} {l r l' r' : Word} :
    encipher t l r = .ok (l', r') ↔
      ∃ p q, t.readP 0 = .ok p ∧ t.readP 17 = .ok q ∧
        links t [1, 2, 3, 4, 5, 6, 7, 8, 9, 10, 11, 12, 13, 14, 15, 16] (r, l ^^^ p) = .ok (l' ^^^ q, r') :=
  rounds_whiten_eq_ok

theorem decipher_eq_ok {t : Tables} {l r l' r' : Word} :
    decipher t l r = .ok (l', r') ↔
      ∃ p q, t.readP 17 = .ok p ∧ t.readP 0 = .ok q ∧
        links t [16, 15, 14, 13, 12, 11, 10, 9, 8, 7, 6, 5, 4, 3, 2, 1] (r, l ^^^ p) = .ok (l' ^^^ q, r') :=
  rounds_whiten_eq_ok

theorem encipher_eq_ok_iff_decipher_eq_ok {t : Tables} {l r l' r' : Word} :
    encipher t l r = .ok (l', r') ↔ decipher t l' r' = .ok (l, r) := by
  rw [encipher_eq_ok, decipher_eq_ok]
  constructor
  · rintro ⟨p, q, hp, hq, h⟩
    exact ⟨q, p, hq, hp, links_reverse.mp h⟩
  · rintro ⟨q, p, hq, hp, h⟩
    exact ⟨p, q, hp, hq, links_reverse.mp h⟩

/-- Settles O30: the links of Decipher are those of Encipher from the other end; the bijection follows as both are
total on valued tables. -/
theorem decipherInvertsEncipher : Obligations.DecipherInvertsEncipher := by
  refine ⟨fun t l r l' r' => encipher_eq_ok_iff_decipher_eq_ok, fun t hfull => ⟨fun l r => ?_, fun l' r' => ?_⟩⟩
  · obtain ⟨⟨l', r'⟩, h⟩ := hfull.encipher_ok l r
    exact ⟨l', r', h⟩
  · obtain ⟨lr, h⟩ := hfull.decipher_ok l' r'
    refine ⟨lr, encipher_eq_ok_iff_decipher_eq_ok.mpr h, fun lr' h' => ?_⟩
    have : Except.ok lr' = Except.ok lr := (encipher_eq_ok_iff_decipher_eq_ok.mp h').symm.trans h
    exact Except.ok.inj this

/-! ### ENCRYPT and DECRYPT in turn (R159) -/

/-- What a transform reads and writes: the block DL:DR and the tables. -/
def blockAndTables (s : State) : Word × Word × Tables := (s.dl, s.dr, s.tables)

theorem offset_of_regAt : ∀ {off : Offset}, ∀ r ∈ regAt off, r.offset = off := by
  decide

theorem presentCommand_blockAndTables {w : Word} {s t : State} (h : presentCommand w s = .next t) :
    blockAndTables t = blockAndTables s := by
  by_cases hres : rsvdField w ≠ 0 ∨ 4 ≤ (opField w).toNat
  · cases (presentCommand_reserved hres s).symm.trans h
    rfl
  · obtain ⟨i, rfl⟩ := exists_eq_encode_of_not_reserved hres
    rw [presentCommand_encode] at h
    rcases exec_cases i s with ⟨_, e⟩ | ⟨_, e⟩ | ⟨_, _, _, e⟩ | ⟨_, _, _, e⟩ | ⟨_, _, _, e⟩ <;>
      cases e.symm.trans h <;> rfl

/-- A Host access that is no write of DL or DR leaves the block, and every Host access the tables. -/
theorem hostStep_blockAndTables {a : Access} {s t : State} (h : hostStep a s = .next t)
    (hother : ∀ off n v, a = .write off n v → off ≠ 0x10 ∧ off ≠ 0x14) : blockAndTables t = blockAndTables s := by
  rcases hostStep_cases h with ⟨off, _, _, rfl⟩ | ⟨off, v, s', ha, _, hw, rfl⟩
  · rcases readReg_state (regAt off) s with h' | ⟨_, _, h'⟩ <;> rw [h'] <;> rfl
  · obtain ⟨hdl, hdr⟩ := hother off 4 v ha
    rcases writeReg_cases hw with ⟨_, hc⟩ | ⟨_, rfl⟩ | ⟨_, _, rfl⟩ |
      ⟨_, ⟨_, rfl⟩ | ⟨hr, _⟩ | ⟨hr, _⟩ | ⟨_, _, rfl⟩⟩ | ⟨_, rfl⟩
    · show blockAndTables s' = blockAndTables s
      exact presentCommand_blockAndTables hc
    · rfl
    · rfl
    · rfl
    · exact absurd (offset_of_regAt _ hr).symm hdl
    · exact absurd (offset_of_regAt _ hr).symm hdr
    · rfl
    · rfl

theorem step_blockAndTables_of_quietMove {s t : State} (hquiet : QuietMove s) (h : step s = .next t) :
    blockAndTables t = blockAndTables s := by
  obtain ⟨e, rest, he, ⟨off, n, rfl⟩ | ⟨off, n, v, rfl, hdl, hdr, _⟩ | ⟨rfl, hp⟩⟩ := hquiet
  · refine hostStep_blockAndTables (s := { s with events := rest }) ((step_cons he).symm.trans h) ?_
    rintro _ _ _ ⟨⟩
  · refine hostStep_blockAndTables (s := { s with events := rest }) ((step_cons he).symm.trans h) ?_
    rintro _ _ _ ⟨⟩
    exact ⟨hdl, hdr⟩
  · have hidle : engineStep { s with events := rest } = .next { s with events := rest } := by simp only [engineStep, hp]
    cases hidle.symm.trans ((step_cons he).symm.trans h)
    rfl

theorem quietRun_blockAndTables {s t : State} (h : QuietRun s t) : blockAndTables t = blockAndTables s := by
  induction h with
  | refl s => rfl
  | move hquiet hstep _ ih => exact ih.trans (step_blockAndTables_of_quietMove hquiet hstep)

theorem encipher_of_engineStep {s t : State} (hp : s.pend = .encrypt) (h : engineStep s = .next t) :
    encipher s.tables s.dl s.dr = .ok (t.dl, t.dr) ∧ t.tables = s.tables := by
  rcases engineStep_cases h with ⟨hp', _⟩ | ⟨hp', _⟩ | ⟨_, lr, hlr, rfl⟩ | ⟨hp', _⟩
  case inr.inr.inl => exact ⟨hlr, rfl⟩
  all_goals cases hp.symm.trans hp'

theorem decipher_of_engineStep {s t : State} (hp : s.pend = .decrypt) (h : engineStep s = .next t) :
    decipher s.tables s.dl s.dr = .ok (t.dl, t.dr) ∧ t.tables = s.tables := by
  rcases engineStep_cases h with ⟨hp', _⟩ | ⟨hp', _⟩ | ⟨hp', _⟩ | ⟨_, lr, hlr, rfl⟩
  case inr.inr.inr => exact ⟨hlr, rfl⟩
  all_goals cases hp.symm.trans hp'

/-- Settles O31: the second transform finds the tables of the first and its result in DL:DR, and undoes it by R145. -/
theorem decryptAfterEncryptRestoresBlock : Obligations.DecryptAfterEncryptRestoresBlock := by
  intro s a b c hfirst hrun hsecond hpend
  obtain ⟨hdl, hdr, htab⟩ : b.dl = a.dl ∧ b.dr = a.dr ∧ b.tables = a.tables := by
    simpa only [blockAndTables, Prod.mk.injEq] using quietRun_blockAndTables hrun
  have hblock : (Except.ok (c.dl, c.dr) : Except Fault (Word × Word)) = .ok (s.dl, s.dr) := by
    rcases hpend with ⟨hps, hpb⟩ | ⟨hps, hpb⟩
    · obtain ⟨hout, hkeep⟩ := encipher_of_engineStep hps hfirst
      have hback := (decipher_of_engineStep hpb hsecond).1
      rw [hdl, hdr, htab, hkeep] at hback
      exact hback.symm.trans (encipher_eq_ok_iff_decipher_eq_ok.mp hout)
    · obtain ⟨hout, hkeep⟩ := decipher_of_engineStep hps hfirst
      have hback := (encipher_of_engineStep hpb hsecond).1
      rw [hdl, hdr, htab, hkeep] at hback
      exact hback.symm.trans (encipher_eq_ok_iff_decipher_eq_ok.mpr hout)
  simpa only [Except.ok.injEq, Prod.mk.injEq] using hblock

end Sys2Proof.Proofs
end

section
/-! PROOFS. What one step can do, said once: the error a write causes, the effect of a Host access, and whose move a
step is. -/

namespace Sys2Proof.Proofs

open Sys2Proof.Machine Sys2Proof.Claims

/-! ### The error flags -/

theorem errFlags_get_set (e : ErrFlags) (f g : ErrFlag) : (e.set g).get f = true ↔ f = g ∨ e.get f = true := by
  cases f <;> cases g <;> simp [ErrFlags.set, ErrFlags.get]

theorem errFlags_get_clearBy (e : ErrFlags) (v : Word) (f : ErrFlag) :
    (e.clearBy v).get f = (e.get f && !v.getLsbD f.bit) := by
  cases f <;> rfl

theorem errFlags_get_clear (f : ErrFlag) : ErrFlags.clear.get f = false := by
  cases f <;> rfl

/-! ### The error that a write causes, register by register (60_exceptions.md R202 to R205) -/

/-- The reserved words are those above 3 (30_encoding.md R85). -/
theorem reserved_iff_three_lt {w : Word} : (rsvdField w ≠ 0 ∨ 4 ≤ (opField w).toNat) ↔ 3 < w.toNat := by
  refine ⟨fun hres => ?_, not_imp_not.mp fun hres => ?_⟩
  · by_contra hle
    obtain ⟨i, hi⟩ : ∃ i, w = encode i := by
      match hw : w.toNat, not_lt.mp hle with
      | 0, _ => exact ⟨.nop, BitVec.eq_of_toNat_eq hw⟩
      | 1, _ => exact ⟨.init, BitVec.eq_of_toNat_eq hw⟩
      | 2, _ => exact ⟨.encrypt, BitVec.eq_of_toNat_eq hw⟩
      | 3, _ => exact ⟨.decrypt, BitVec.eq_of_toNat_eq hw⟩
    obtain ⟨r, hr⟩ := (decode_eq_error_iff w).mpr hres
    rw [hi, decode_encode] at hr
    cases hr
  · obtain ⟨i, rfl⟩ := exists_eq_encode_of_not_reserved hres
    cases i <;> decide

theorem errorCause_reserved (s : State) {w : Word} (h : 3 < w.toNat) : errorCause s 0x00 w = some .cmd := by
  rw [errorCause, if_pos rfl, if_pos h]

theorem errorCause_init (s : State) :
    errorCause s 0x00 (encode .init) =
      if s.pend ≠ .none then some .busy
      else if s.keylen.toNat = 0 ∨ 56 < s.keylen.toNat then some .keylen else none := rfl

/-- ENCRYPT and DECRYPT have the same causes of error. -/
theorem errorCause_transform (s : State) {i : Instr} (hi : i = .encrypt ∨ i = .decrypt) :
    errorCause s 0x00 (encode i) =
      if s.pend ≠ .none then some .busy else if s.ready = false then some .noinit else none := by
  rcases hi with rfl | rfl <;> rfl

/-- An operand register's write has one cause of error. -/
theorem errorCause_operand (s : State) (v : Word) {r : Reg} (hcmd : r ≠ .cmd) (hstatus : r ≠ .status) :
    errorCause s r.offset v = if s.pend ≠ .none then some .busy else none := by
  obtain ⟨hcmd, hoperand⟩ : r.offset ≠ 0x00 ∧ (r.offset = 0x08 ∨ r.offset = 0x10 ∨ r.offset = 0x14 ∨
      (0x20 ≤ r.offset.toNat ∧ r.offset.toNat ≤ 0x54)) := by
    cases r with
    | cmd => exact absurd rfl hcmd
    | status => exact absurd rfl hstatus
    | keylen | dl | dr => decide
    | key j =>
      revert j
      decide
  rw [errorCause, if_neg hcmd, if_pos hoperand]

/-- A write of a reserved word offset has no cause of error: a look at the window's 128 offsets. -/
theorem errorCause_reservedOffset (s : State) (v : Word) {off : Offset} (halign : off.toNat % 4 = 0)
    (hnone : regAt off = none) : errorCause s off v = none := by
  have hoff : ∀ off : Offset, off.toNat % 4 = 0 → regAt off = none → off ≠ 0x00 ∧
      ¬(off = 0x08 ∨ off = 0x10 ∨ off = 0x14 ∨ (0x20 ≤ off.toNat ∧ off.toNat ≤ 0x54)) := by
    decide
  obtain ⟨hcmd, hother⟩ := hoff off halign hnone
  rw [errorCause, if_neg hcmd, if_neg hother]

/-! ### What a write does (20_memory.md R55 to R65; 40_command_interface.md R100) -/

/-- What a write that causes no error does, before its response: `Performs s off v t` leads from s to t. -/
inductive Performs (s : State) : Offset → Word → State → Prop
  /-- NOP, or a reserved offset. -/
  | nothing {off : Offset} {v : Word} : Performs s off v s
  | clearErrs {v : Word} : Performs s 0x04 v (s.clearErrs v)
  | acceptInit (hidle : s.pend = .none) (hlen : keylenLegal s.keylen = true) :
      Performs s 0x00 1 (s.clearReady.accept .init)
  | acceptEncrypt (hidle : s.pend = .none) (hready : s.ready = true) : Performs s 0x00 2 (s.accept .encrypt)
  | acceptDecrypt (hidle : s.pend = .none) (hready : s.ready = true) : Performs s 0x00 3 (s.accept .decrypt)
  | keylen {v : Word} (hidle : s.pend = .none) : Performs s 0x08 v (s.writeKeylen v)
  | dl {v : Word} (hidle : s.pend = .none) : Performs s 0x10 v (s.writeDl v)
  | dr {v : Word} (hidle : s.pend = .none) : Performs s 0x14 v (s.writeDr v)
  | key {v : Word} (hidle : s.pend = .none) (j : Fin 14) : Performs s (Reg.key j).offset v (s.writeKey j v)

/-- What a legal write does: it sets the flag of its error and nothing else, or it has no error and performs. -/
def WriteEffect (s : State) (off : Offset) (v : Word) (t : State) : Prop :=
  (∃ f, errorCause s off v = some f ∧ t = s.setErr f) ∨ (errorCause s off v = none ∧ Performs s off v t)

theorem writeEffect_init {s t : State} (h : exec .init s = .next t) : WriteEffect s 0x00 (encode .init) t := by
  by_cases hp : s.pend = .none
  · cases hk : keylenLegal s.keylen with
    | true =>
      cases (execInit_accepted hp hk).symm.trans h
      obtain ⟨h1, h56⟩ := keylenLegal_iff.mp hk
      exact .inr ⟨by rw [errorCause_init, if_neg (not_not.mpr hp), if_neg (by omega)], .acceptInit hp hk⟩
    | false =>
      cases (execInit_badLength hp hk).symm.trans h
      have hlen : ¬(1 ≤ s.keylen.toNat ∧ s.keylen.toNat ≤ 56) := mt keylenLegal_iff.mpr (by simp [hk])
      exact .inl ⟨_, by rw [errorCause_init, if_neg (not_not.mpr hp), if_pos (by omega)], rfl⟩
  · cases (execInit_busy hp).symm.trans h
    exact .inl ⟨_, by rw [errorCause_init, if_pos hp], rfl⟩

/-- ENCRYPT and DECRYPT are accepted or rejected in one way. -/
theorem writeEffect_transform {i : Instr} {p : Pend} {s t : State} (hi : i = .encrypt ∨ i = .decrypt)
    (hperforms : s.pend = .none → s.ready = true → Performs s 0x00 (encode i) (s.accept p))
    (h : acceptTransform p s = .next t) : WriteEffect s 0x00 (encode i) t := by
  by_cases hp : s.pend = .none
  · cases hr : s.ready with
    | true =>
      cases (acceptTransform_accepted p hp hr).symm.trans h
      exact .inr ⟨by rw [errorCause_transform s hi, if_neg (not_not.mpr hp), if_neg (by simp [hr])], hperforms hp hr⟩
    | false =>
      cases (acceptTransform_noinit p hp hr).symm.trans h
      exact .inl ⟨_, by rw [errorCause_transform s hi, if_neg (not_not.mpr hp), if_pos hr], rfl⟩
  · cases (acceptTransform_busy p hp).symm.trans h
    exact .inl ⟨_, by rw [errorCause_transform s hi, if_pos hp], rfl⟩

theorem writeEffect_presentCommand {w : Word} {s t : State} (h : presentCommand w s = .next t) :
    WriteEffect s 0x00 w t := by
  by_cases hres : rsvdField w ≠ 0 ∨ 4 ≤ (opField w).toNat
  · cases (presentCommand_reserved hres s).symm.trans h
    exact .inl ⟨_, errorCause_reserved s (reserved_iff_three_lt.mp hres), rfl⟩
  · obtain ⟨i, rfl⟩ := exists_eq_encode_of_not_reserved hres
    rw [presentCommand_encode] at h
    cases i with
    | nop =>
      cases h
      exact .inr ⟨rfl, .nothing⟩
    | init => exact writeEffect_init h
    | encrypt => exact writeEffect_transform (.inl rfl) .acceptEncrypt h
    | decrypt => exact writeEffect_transform (.inr rfl) .acceptDecrypt h

/-- The operand registers are stored or dropped with ERR_BUSY in one way. -/
theorem writeEffect_operand {r : Reg} {v : Word} {s : State} {write : State → State} (hcmd : r ≠ .cmd)
    (hstatus : r ≠ .status) (hperforms : s.pend = .none → Performs s r.offset v (write s)) :
    WriteEffect s r.offset v (writeOperand write s) := by
  by_cases hp : s.pend = .none
  · rw [writeOperand_idle _ hp]
    exact .inr ⟨by rw [errorCause_operand s v hcmd hstatus, if_neg (not_not.mpr hp)], hperforms hp⟩
  · rw [writeOperand_busy _ hp]
    exact .inl ⟨_, by rw [errorCause_operand s v hcmd hstatus, if_pos hp], rfl⟩

theorem writeEffect_writeReg {off : Offset} {v : Word} {s t : State} (halign : off.toNat % 4 = 0)
    (h : writeReg (regAt off) v s = .next t) : WriteEffect s off v t := by
  cases hr : regAt off with
  | none =>
    rw [hr] at h
    cases h
    exact .inr ⟨errorCause_reservedOffset s v halign hr, .nothing⟩
  | some r =>
    obtain rfl : r.offset = off := offset_of_regAt r hr
    rw [hr] at h
    cases r with
    | cmd => exact writeEffect_presentCommand h
    | status =>
      cases h
      exact .inr ⟨rfl, .clearErrs⟩
    | keylen =>
      cases h
      exact writeEffect_operand (by decide) (by decide) .keylen
    | dl =>
      cases h
      exact writeEffect_operand (by decide) (by decide) .dl
    | dr =>
      cases h
      exact writeEffect_operand (by decide) (by decide) .dr
    | key j =>
      cases h
      exact writeEffect_operand Reg.noConfusion Reg.noConfusion fun hp => .key hp j

/-! ### What a Host access does -/

/-- What a Host access does before its response: a read changes at most the count of free values, a write sets the flag
of its error or performs. -/
inductive HostEffect (s : State) : Access → State → Prop
  | read {off : Offset} : HostEffect s (.read off 4) s
  | draw {off : Offset} : HostEffect s (.read off 4) s.drawWord.2
  | error {off : Offset} {v : Word} {f : ErrFlag} (hcause : errorCause s off v = some f) :
      HostEffect s (.write off 4 v) (s.setErr f)
  | perform {off : Offset} {v : Word} {t : State} (hnone : errorCause s off v = none) (hp : Performs s off v t) :
      HostEffect s (.write off 4 v) t

theorem hostEffect_of_hostStep {a : Access} {s t : State} (h : hostStep a s = .next t) :
    ∃ u x, HostEffect s a u ∧ t = u.respond x := by
  rcases hostStep_cases h with ⟨off, rfl, _, rfl⟩ | ⟨off, v, u, rfl, halign, hw, rfl⟩
  · refine ⟨_, _, ?_, rfl⟩
    rcases readReg_state (regAt off) s with h' | ⟨_, _, h'⟩ <;> rw [h']
    · exact .read
    · exact .draw
  · refine ⟨u, _, ?_, rfl⟩
    rcases writeEffect_writeReg halign hw with ⟨f, hcause, rfl⟩ | ⟨hnone, hp⟩
    · exact .error hcause
    · exact .perform hnone hp

/-! What the access leaves alone, and what it takes to change the rest. -/

section
variable {s t : State} {a : Access}

theorem HostEffect.tables_eq (h : HostEffect s a t) : t.tables = s.tables := by
  cases h with
  | perform _ hp => cases hp <;> rfl
  | _ => rfl

theorem HostEffect.keylen_eq_or (h : HostEffect s a t) :
    t.keylen = s.keylen ∨ (s.pend = .none ∧ ∃ v, a = .write 0x08 4 v) := by
  cases h with
  | perform _ hp =>
    cases hp with
    | keylen hidle => exact .inr ⟨hidle, _, rfl⟩
    | _ => exact .inl rfl
  | _ => exact .inl rfl

theorem HostEffect.dl_eq_or (h : HostEffect s a t) : t.dl = s.dl ∨ (s.pend = .none ∧ ∃ v, a = .write 0x10 4 v) := by
  cases h with
  | perform _ hp =>
    cases hp with
    | dl hidle => exact .inr ⟨hidle, _, rfl⟩
    | _ => exact .inl rfl
  | _ => exact .inl rfl

theorem HostEffect.dr_eq_or (h : HostEffect s a t) : t.dr = s.dr ∨ (s.pend = .none ∧ ∃ v, a = .write 0x14 4 v) := by
  cases h with
  | perform _ hp =>
    cases hp with
    | dr hidle => exact .inr ⟨hidle, _, rfl⟩
    | _ => exact .inl rfl
  | _ => exact .inl rfl

theorem HostEffect.key_eq_or (h : HostEffect s a t) (j : Fin 14) :
    t.keys[j] = s.keys[j] ∨ (s.pend = .none ∧ ∃ v, a = .write (Reg.key j).offset 4 v) := by
  cases h with
  | perform _ hp =>
    cases hp with
    | key hidle i =>
      by_cases hij : i = j
      · exact .inr ⟨hidle, _, by rw [hij]⟩
      · exact .inl (Vector.getElem_set_ne i.isLt j.isLt fun e => hij (Fin.ext e))
    | _ => exact .inl rfl
  | _ => exact .inl rfl

/-- A Host access changes READY only where it is an accepted INIT, which clears it (41_keyschedule.md R121). -/
theorem HostEffect.ready_eq_or (h : HostEffect s a t) :
    t.ready = s.ready ∨
      (s.pend = .none ∧ keylenLegal s.keylen = true ∧ a = .write 0x00 4 1 ∧ t.ready = false) := by
  cases h with
  | perform _ hp =>
    cases hp with
    | acceptInit hidle hlen => exact .inr ⟨hidle, hlen, rfl, rfl⟩
    | _ => exact .inl rfl
  | _ => exact .inl rfl

/-- A Host access changes PEND only where it is an accepted command (10_state.md R28). -/
theorem HostEffect.pend_eq_or (h : HostEffect s a t) :
    t.pend = s.pend ∨
      (s.pend = .none ∧ ∃ w, a = .write 0x00 4 w ∧
        ((w = 1 ∧ keylenLegal s.keylen = true) ∨ ((w = 2 ∨ w = 3) ∧ s.ready = true))) := by
  cases h with
  | perform _ hp =>
    cases hp with
    | acceptInit hidle hlen => exact .inr ⟨hidle, 1, rfl, .inl ⟨rfl, hlen⟩⟩
    | acceptEncrypt hidle hready => exact .inr ⟨hidle, 2, rfl, .inr ⟨.inl rfl, hready⟩⟩
    | acceptDecrypt hidle hready => exact .inr ⟨hidle, 3, rfl, .inr ⟨.inr rfl, hready⟩⟩
    | _ => exact .inl rfl
  | _ => exact .inl rfl

theorem Performs.get_errs {off : Offset} {v : Word} (h : Performs s off v t) {f : ErrFlag}
    (ht : t.errs.get f = true) : s.errs.get f = true := by
  cases h with
  | clearErrs =>
    rw [State.clearErrs_errs, errFlags_get_clearBy, Bool.and_eq_true] at ht
    exact ht.1
  | _ => exact ht

/-- A Host access sets a flag only as the error it causes. -/
theorem HostEffect.flag_set (h : HostEffect s a t) {f : ErrFlag} (hs : s.errs.get f = false)
    (ht : t.errs.get f = true) : ∃ off v, a = .write off 4 v ∧ errorCause s off v = some f := by
  cases h with
  | read | draw => exact absurd ht (by simp [State.drawWord, hs])
  | error hcause =>
    rcases (errFlags_get_set _ _ _).mp ht with rfl | hold
    · exact ⟨_, _, rfl, hcause⟩
    · exact absurd hold (by simp [hs])
  | perform _ hp => exact absurd (hp.get_errs ht) (by simp [hs])

/-- A Host access clears a flag only as a write of 1 to its bit of STATUS (20_memory.md R59). -/
theorem HostEffect.flag_cleared (h : HostEffect s a t) {f : ErrFlag} (hs : s.errs.get f = true)
    (ht : t.errs.get f = false) : ∃ v, a = .write 0x04 4 v ∧ v.getLsbD f.bit = true := by
  cases h with
  | read | draw => exact absurd ht (by simp [State.drawWord, hs])
  | error =>
    rw [State.setErr_errs, ← Bool.not_eq_true, errFlags_get_set] at ht
    exact absurd (.inr hs) ht
  | perform _ hp =>
    cases hp with
    | clearErrs =>
      rw [State.clearErrs_errs, errFlags_get_clearBy, hs, Bool.true_and, Bool.not_eq_false'] at ht
      exact ⟨_, rfl, ht⟩
    | _ => exact absurd ht (by simp [hs])

end

/-! ### The Engine's turn (40_command_interface.md R104) -/

/-- Settles O42: the four things an Engine's turn can do, field by field. -/
theorem engineStepFrame : Obligations.EngineStepFrame := by
  intro s t h
  rcases engineStep_cases h with ⟨hp, rfl⟩ | ⟨hp, tab, _, rfl⟩ | ⟨hp, lr, _, rfl⟩ | ⟨hp, lr, _, rfl⟩ <;> simp [hp]

/-! ### Whose move a step is -/

/-- The Engine moves next: it is its turn or no move is left (log 3). -/
abbrev EngineMovesNext (s : State) : Prop := s.events = [] ∨ ∃ rest, s.events = .engine :: rest

theorem step_of_engineMovesNext {s : State} (h : EngineMovesNext s) :
    step s = engineStep { s with events := s.events.tail } := by
  rcases h with he | ⟨rest, he⟩
  · have hs : { s with events := s.events.tail } = s := by rw [he, List.tail_nil, ← he]
    rw [step_nil he, hs]
  · rw [step_cons he, he]
    rfl

/-- A step is the Engine's, a Reset or a Host access. -/
theorem step_movers {s t : State} (h : step s = .next t) :
    (EngineMovesNext s ∧ engineStep { s with events := s.events.tail } = .next t) ∨
    (∃ rest, s.events = .reset :: rest ∧ t = State.resetStep { s with events := rest }) ∨
    (∃ a rest u x, s.events = .host a :: rest ∧ HostEffect { s with events := rest } a u ∧ t = u.respond x) := by
  rcases step_cases h with ⟨he, _⟩ | ⟨rest, he, _⟩ | ⟨rest, he, ht⟩ | ⟨a, rest, he, hstep⟩
  · exact .inl ⟨.inl he, step_of_engineMovesNext (.inl he) ▸ h⟩
  · exact .inl ⟨.inr ⟨rest, he⟩, step_of_engineMovesNext (.inr ⟨rest, he⟩) ▸ h⟩
  · exact .inr (.inl ⟨rest, he, ht⟩)
  · obtain ⟨u, x, hu, ht⟩ := hostEffect_of_hostStep hstep
    exact .inr (.inr ⟨a, rest, u, x, he, hu, ht⟩)

theorem HostEffect.events_eq {s t : State} {a : Access} (h : HostEffect s a t) : t.events = s.events := by
  cases h with
  | perform _ hp => cases hp <;> rfl
  | _ => rfl

/-- A step takes the first move off and leaves the others. -/
theorem step_events {s t : State} (h : step s = .next t) : t.events = s.events.tail := by
  rcases step_movers h with ⟨_, hengine⟩ | ⟨rest, he, rfl⟩ | ⟨a, rest, u, x, he, hu, rfl⟩
  · obtain ⟨_, _, _, _, hevents, _⟩ := engineStepFrame _ _ hengine
    exact hevents
  · rw [he]
    rfl
  · rw [he]
    exact hu.events_eq

end Sys2Proof.Proofs
end

section
/-! PROOFS. Decoding against encoding, as words and as numbers (30_encoding.md section 1). -/

namespace Sys2Proof.Proofs

theorem toOption_eq_some {ε α : Type} {x : Except ε α} {a : α} : x.toOption = some a ↔ x = .ok a := by
  cases x <;> simp [Except.toOption]

theorem decodeTableWord_eq_some {n : Nat} (hn : n < 2 ^ 32) (i : Instr) :
    decodeTableWord 32 n = some i ↔ n = (encode i).toNat := by
  rw [decodeTableWord, Nat.mod_eq_of_lt hn, if_pos hn, toOption_eq_some, decode_eq_ok_iff,
    ← BitVec.toNat_inj, BitVec.toNat_ofNat, Nat.mod_eq_of_lt hn]

/-- Settles O3: a command has exactly one word, and a table word is that word as a number. -/
theorem decodeEncodeAgree : Obligations.DecodeEncodeAgree :=
  ⟨fun _ _ _ => decode_eq_ok_iff, fun i _ hn => decodeTableWord_eq_some hn i⟩

/-- Settles O1, by evaluation. -/
theorem sampleCommandWordsDecode : Obligations.SampleCommandWordsDecode :=
  ⟨rfl, rfl, rfl, rfl, rfl, rfl, rfl, rfl, rfl, rfl⟩

end Sys2Proof.Proofs
end

section
/-! PROOFS. What every step keeps and where runs lead: the invariant, the whole schedule, no undefined read, progress
(10_state.md section 3; 70_reset_and_hazards.md section 4). -/

namespace Sys2Proof.Proofs

open Sys2Proof.Machine

/-! ### The invariant -/

/-- The invariant speaks of READY, PEND, KEYLEN and the tables only. -/
theorem inv_congr {s t : State} (h : s.Inv) (hready : t.ready = s.ready) (hpend : t.pend = s.pend)
    (hkeylen : t.keylen = s.keylen) (htables : t.tables = s.tables) : t.Inv := by
  constructor
  all_goals simp only [hready, hpend, hkeylen, htables]
  exacts [h.readyFull, h.encryptReady, h.decryptReady, h.initCleared, h.initLegal]

/-- With nothing pending only READY has a condition. -/
theorem inv_of_idle {s : State} (hidle : s.pend = .none) (hfull : s.ready = true → s.tables.Full) : s.Inv where
  readyFull := hfull
  encryptReady h := by simp [hidle] at h
  decryptReady h := by simp [hidle] at h
  initCleared h := by simp [hidle] at h
  initLegal h := by simp [hidle] at h

theorem inv_accept_init {s : State} (hlen : keylenLegal s.keylen = true) : (s.clearReady.accept .init).Inv where
  readyFull h := by simp at h
  encryptReady h := by simp at h
  decryptReady h := by simp at h
  initCleared _ := rfl
  initLegal _ := hlen

theorem inv_accept_transform {s : State} {p : Pend} (h : s.Inv) (hready : s.ready = true) (hp : p ≠ .init) :
    (s.accept p).Inv where
  readyFull := h.readyFull
  encryptReady _ := hready
  decryptReady _ := hready
  initCleared h := absurd h hp
  initLegal h := absurd h hp

/-- Settles O49: nothing pends and READY = 0. -/
theorem resetMeetsInvariant : Obligations.ResetMeetsInvariant :=
  inv_of_idle rfl fun h => by simp [State.reset] at h

/-- Acceptance sets up what the invariant asks of a pending operation; KEYLEN is written while nothing pends. -/
theorem HostEffect.inv {s t : State} {a : Access} (h : HostEffect s a t) (hs : s.Inv) : t.Inv := by
  cases h with
  | read | draw | error => exact inv_congr hs rfl rfl rfl rfl
  | perform _ hp =>
    cases hp with
    | acceptInit _ hlen => exact inv_accept_init hlen
    | acceptEncrypt _ hready => exact inv_accept_transform hs hready (by decide)
    | acceptDecrypt _ hready => exact inv_accept_transform hs hready (by decide)
    | keylen hidle => exact inv_of_idle hidle hs.readyFull
    | nothing | clearErrs | dl | dr | key => exact inv_congr hs rfl rfl rfl rfl

/-- A legal key length gives a schedule in which every word holds a value. -/
theorem full_of_buildSchedule {keys : Vector Word 14} {len : Byte} {old tab : Tables} (hlen : keylenLegal len = true)
    (h : buildSchedule keys len.toNat old = .ok tab) : tab.Full := by
  obtain ⟨h1, h56⟩ := keylenLegal_iff.mp hlen
  obtain ⟨tab', h', hfull⟩ := buildSchedule_ok keys h1 h56 old
  cases h.symm.trans h'
  exact hfull

theorem inv_engineStep {s t : State} (hs : s.Inv) (h : engineStep s = .next t) : t.Inv := by
  rcases engineStep_cases h with ⟨_, rfl⟩ | ⟨hp, tab, hbuild, rfl⟩ | ⟨_, lr, _, rfl⟩ | ⟨_, lr, _, rfl⟩
  · exact hs
  · exact inv_of_idle rfl fun _ => full_of_buildSchedule (hs.initLegal hp) hbuild
  · exact inv_of_idle rfl hs.readyFull
  · exact inv_of_idle rfl hs.readyFull

theorem inv_withEvents {s : State} (h : s.Inv) (es : List Event) : State.Inv { s with events := es } :=
  inv_congr h rfl rfl rfl rfl

/-- Settles O50: the Engine's turn, Reset and each Host access keep the invariant. -/
theorem stepKeepsInvariant : Obligations.StepKeepsInvariant := by
  intro s t hs h
  rcases step_movers h with ⟨_, hengine⟩ | ⟨rest, _, rfl⟩ | ⟨a, rest, u, x, _, hu, rfl⟩
  · exact inv_engineStep (inv_withEvents hs _) hengine
  · exact inv_of_idle rfl fun hready => by simp at hready
  · exact inv_congr (hu.inv (inv_withEvents hs rest)) rfl rfl rfl rfl

/-! ### The whole schedule of a legal key -/

/-- Settles O51: the Host changes no table and does not raise READY; INIT, of a legal length, leaves its key's schedule;
Reset leaves no value and READY = 0. -/
theorem readyMeansCompleteSchedule : Obligations.ReadyMeansCompleteSchedule := by
  intro s t hs hsched hwhole h
  rcases step_movers h with ⟨_, hengine⟩ | ⟨rest, _, rfl⟩ | ⟨a, rest, u, x, _, hu, rfl⟩
  · rcases engineStep_cases hengine with ⟨_, rfl⟩ | ⟨hp, tab, hbuild, rfl⟩ | ⟨_, lr, _, rfl⟩ | ⟨_, lr, _, rfl⟩
    · exact ⟨hsched, hwhole⟩
    · have hlen : keylenLegal s.keylen = true := hs.initLegal hp
      exact ⟨fun _ => ⟨s.keys, s.keylen, hlen, hbuild⟩, .inr (full_of_buildSchedule hlen hbuild)⟩
    · exact ⟨hsched, hwhole⟩
    · exact ⟨hsched, hwhole⟩
  · exact ⟨fun hready => by simp at hready, .inl rfl⟩
  · rw [State.respond_ready, State.respond_tables, hu.tables_eq]
    refine ⟨fun hready => hsched ?_, hwhole⟩
    rcases hu.ready_eq_or with hsame | ⟨_, _, _, hcleared⟩
    · exact hsame.symm.trans hready
    · simp [hcleared] at hready

/-! ### No read of a word without a value -/

/-- In a state that meets the invariant the Engine completes what pends. -/
theorem engineStep_next_of_inv {s : State} (h : s.Inv) : ∃ t, engineStep s = .next t := by
  cases hp : s.pend with
  | none => exact ⟨s, by simp only [engineStep, hp]⟩
  | init =>
    obtain ⟨h1, h56⟩ := keylenLegal_iff.mp (h.initLegal hp)
    obtain ⟨tab, htab, _⟩ := buildSchedule_ok s.keys h1 h56 s.tables
    exact ⟨_, engineStep_init hp htab⟩
  | encrypt =>
    obtain ⟨lr, hlr⟩ := (h.readyFull (h.encryptReady hp)).encipher_ok s.dl s.dr
    exact ⟨_, engineStep_encrypt hp hlr⟩
  | decrypt =>
    obtain ⟨lr, hlr⟩ := (h.readyFull (h.decryptReady hp)).decipher_ok s.dl s.dr
    exact ⟨_, engineStep_decrypt hp hlr⟩

/-- A legal Host access is answered, in every state. -/
theorem hostStep_next_of_legal {a : Access} (h : a.legal = true) (s : State) : ∃ t, hostStep a s = .next t := by
  cases a with
  | read off n => exact ⟨_, hostStep_read h⟩
  | write off n v =>
    obtain ⟨t, ht⟩ := writeReg_next (regAt off) v s
    exact ⟨_, by rw [hostStep_write h, ht, onNext_next]⟩

/-- From a state that meets the invariant only a move the spec does not define stops the machine. -/
theorem step_outcome_of_inv {s : State} (h : s.Inv) :
    (∃ t, step s = .next t) ∨
    (∃ e rest, s.events = e :: rest ∧ e.legal = false ∧
      (step s = .fault .busError ∨ step s = .refused .accessOverlapsReset)) := by
  cases he : s.events with
  | nil =>
    obtain ⟨t, ht⟩ := engineStep_next_of_inv h
    exact .inl ⟨t, (step_nil he).trans ht⟩
  | cons e rest =>
    rw [step_cons he]
    cases e with
    | host a =>
      cases hlegal : a.legal with
      | true => exact .inl (hostStep_next_of_legal hlegal _)
      | false => exact .inr ⟨_, _, rfl, hlegal, .inl (hostStep_illegal hlegal)⟩
    | engine => exact .inl (engineStep_next_of_inv (inv_withEvents h rest))
    | reset => exact .inl ⟨_, rfl⟩
    | hostDuringReset a => exact .inr ⟨_, _, rfl, rfl, .inr rfl⟩

theorem legalSchedule_of_step {s t : State} (hlegal : s.LegalSchedule) (h : step s = .next t) : t.LegalSchedule := by
  intro e he
  rw [step_events h] at he
  exact hlegal e (List.mem_of_mem_tail he)

theorem step_next_of_legalSchedule {s : State} (h : s.Inv) (hlegal : s.LegalSchedule) : ∃ t, step s = .next t := by
  rcases step_outcome_of_inv h with hnext | ⟨e, rest, he, hillegal, _⟩
  · exact hnext
  · have : e.legal = true := hlegal e (he ▸ List.mem_cons_self)
    simp [this] at hillegal

/-- Settles O52: the machine stops on an illegal move only, with the bus error or the refusal. -/
theorem noStepReadsUndefinedWords : Obligations.NoStepReadsUndefinedWords := by
  intro s h
  obtain ⟨hvalue, hbyte⟩ : step s ≠ .fault .noTableValue ∧ step s ≠ .fault .noKeyByte := by
    rcases step_outcome_of_inv h with ⟨t, ht⟩ | ⟨_, _, _, _, ht | ht⟩ <;> simp [ht]
  refine ⟨hvalue, hbyte, fun hlegal => ?_⟩
  obtain ⟨t, ht⟩ := step_next_of_legalSchedule h hlegal
  exact ⟨t, ht, legalSchedule_of_step hlegal ht⟩

/-! ### Progress -/

/-- The Engine's turn leaves the result of the operation that pends, on the operands as they stand. -/
theorem result_of_engineStep {s t : State} (h : engineStep s = .next t) :
    (s.pend = .init → buildSchedule s.keys s.keylen.toNat s.tables = .ok t.tables ∧ t.ready = true) ∧
    (s.pend = .encrypt → encipher s.tables s.dl s.dr = .ok (t.dl, t.dr)) ∧
    (s.pend = .decrypt → decipher s.tables s.dl s.dr = .ok (t.dl, t.dr)) := by
  refine ⟨fun hp => ?_, fun hp => (encipher_of_engineStep hp h).1, fun hp => (decipher_of_engineStep hp h).1⟩
  rcases engineStep_cases h with ⟨hp', _⟩ | ⟨_, tab, hbuild, rfl⟩ | ⟨hp', _⟩ | ⟨hp', _⟩
  case inr.inl => exact ⟨hbuild, rfl⟩
  all_goals cases hp.symm.trans hp'

/-- With no move left the step is the Engine's, and then nothing pends; before it, each move keeps the invariant. -/
theorem run_legalSchedule {n : Nat} {s : State} (hn : s.events.length = n) (h : s.Inv) (hlegal : s.LegalSchedule) :
    ∃ t, Host.Core.run Sys2Proof.core (n + 1) s = .next t ∧ t.pend = .none ∧ t.events = [] ∧ t.Inv := by
  induction n generalizing s with
  | zero =>
    obtain ⟨t, ht⟩ := step_next_of_legalSchedule h hlegal
    have he : s.events = [] := List.eq_nil_of_length_eq_zero hn
    obtain ⟨hidle, _⟩ := engineStepFrame _ _ ((step_nil he).symm.trans ht)
    exact ⟨t, run_succ_of_next 0 ht, hidle, by rw [step_events ht, he, List.tail_nil], stepKeepsInvariant s t h ht⟩
  | succ n ih =>
    obtain ⟨t, ht⟩ := step_next_of_legalSchedule h hlegal
    have hlength : t.events.length = n := by rw [step_events ht, List.length_tail, hn, Nat.add_sub_cancel]
    obtain ⟨u, hrun, hdone⟩ := ih hlength (stepKeepsInvariant s t h ht) (legalSchedule_of_step hlegal ht)
    exact ⟨u, (run_succ_of_next _ ht).trans hrun, hdone⟩

/-- While an operation pends and no Reset is to come, the Host's moves run off until the Engine moves next; they leave
the operation and its operands as they stood. -/
theorem run_until_engineMovesNext {es : List Event} {s : State} (hes : s.events = es) (hlegal : s.LegalSchedule)
    (hp : s.pend ≠ .none) (hreset : Event.reset ∉ s.events) :
    ∃ k u, k ≤ es.length ∧ Host.Core.run Sys2Proof.core k s = .next u ∧
      u = { s with errs := u.errs, events := u.events, resp := u.resp, draws := u.draws } ∧ EngineMovesNext u := by
  induction es generalizing s with
  | nil => exact ⟨0, s, le_rfl, rfl, rfl, .inl hes⟩
  | cons e rest ih =>
    have hmem : e ∈ s.events := hes ▸ List.mem_cons_self
    cases e with
    | engine => exact ⟨0, s, Nat.zero_le _, rfl, rfl, .inr ⟨rest, hes⟩⟩
    | reset => exact absurd hmem hreset
    | hostDuringReset a => exact absurd (hlegal _ hmem) Bool.false_ne_true
    | host a =>
      obtain ⟨t, ht⟩ := hostStep_next_of_legal (hlegal _ hmem) { s with events := rest }
      have hstep : step s = .next t := (step_cons hes).trans ht
      have hevents : t.events = rest := by rw [step_events hstep, hes, List.tail_cons]
      have hkept := hostStep_busy (s := { s with events := rest }) hp ht
      have hpend : t.pend ≠ .none := by rwa [hkept]
      have hreset' : Event.reset ∉ t.events := by
        rw [hevents]
        exact fun hm => hreset (hes ▸ List.mem_cons_of_mem _ hm)
      obtain ⟨k, u, hk, hrun, hu, hnext⟩ := ih hevents (legalSchedule_of_step hlegal hstep) hpend hreset'
      refine ⟨k + 1, u, Nat.succ_le_succ hk, (run_succ_of_next k hstep).trans hrun, ?_, hnext⟩
      rw [hu, hkept]

/-- Settles O53: the schedule runs off by the invariant; until the Engine moves next the pending operation waits with
its operands, and the Engine's step is that operation on them. -/
theorem everyAcceptedOperationCompletes : Obligations.EveryAcceptedOperationCompletes := by
  intro s h hlegal
  refine ⟨run_legalSchedule rfl h hlegal, fun hp hreset => ?_⟩
  obtain ⟨k, u, hk, hrun, hu, hnext⟩ := run_until_engineMovesNext rfl hlegal hp hreset
  have hinv : State.Inv { u with events := u.events.tail } := by
    rw [hu]
    exact inv_congr h rfl rfl rfl rfl
  obtain ⟨v, hv⟩ := engineStep_next_of_inv hinv
  obtain ⟨hidle, _⟩ := engineStepFrame _ _ hv
  refine ⟨k, u, v, hk, hrun, hu, hnext, (step_of_engineMovesNext hnext).trans hv, hv, hidle, ?_⟩
  have hresult := result_of_engineStep hv
  rw [hu] at hresult
  exact hresult

end Sys2Proof.Proofs
end

section
/-! PROOFS. The commands to their completion and the errors (40_command_interface.md; 60_exceptions.md). -/

namespace Sys2Proof.Proofs

open Sys2Proof.Machine Sys2Proof.Claims

/-! ### The command in the step that writes it -/

theorem step_cmdWrite_encode {s t : State} {rest : List Event} {i : Instr} (he : s.events = cmdWrite (encode i) :: rest)
    (ht : exec i { s with events := rest } = .next t) : step s = .next { t with resp := some .written } := by
  rw [step_cmdWrite he, presentCommand_encode, ht]
  rfl

theorem withFetchWord_encode (s : State) (i : Instr) :
    s.withFetchWord 32 (encode i).toNat = s.before (cmdWrite (encode i)) := by
  rw [State.withFetchWord, Nat.mod_eq_of_lt (encode i).isLt, BitVec.ofNat_toNat, BitVec.setWidth_eq]

/-- Settles O4: a CMD write presents its word, and the word decodes to i. -/
theorem stepRunsDecodedInstruction : Obligations.StepRunsDecodedInstruction := by
  refine ⟨fun s w rest i he hw t ht => ?_, fun s i t ht => ?_⟩
  · obtain rfl := decode_eq_ok_iff.mp hw
    exact step_cmdWrite_encode he ht
  · rw [withFetchWord_encode]
    exact step_cmdWrite_encode (s := s.before (cmdWrite (encode i))) rfl ht

/-- Settles O12: a command does nothing, sets a flag or is accepted. -/
theorem instructionFrame : Obligations.InstructionFrame := by
  intro i s t h
  rcases exec_cases i s with ⟨_, e⟩ | ⟨f, e⟩ | ⟨hi, hp, _, e⟩ | ⟨_, hp, _, e⟩ | ⟨_, hp, _, e⟩ <;>
    cases e.symm.trans h <;> simp [*]

/-! ### Accepted and completed -/

/-- Settles O8: a legal length gives a schedule, and INIT's turn installs it. -/
theorem initAcceptedThenBuildsSchedule : Obligations.InitAcceptedThenBuildsSchedule := by
  intro s hidle h1 h56
  obtain ⟨tab, hbuild, hfull⟩ := buildSchedule_ok s.keys h1 h56 s.tables
  obtain ⟨xored, hxored, hexpand⟩ := bind_eq_ok.mp hbuild
  exact ⟨execInit_accepted hidle (keylenLegal_iff.mpr ⟨h1, h56⟩), xored, tab, _, hxored, hexpand,
    engineStep_init rfl hbuild, rfl, hfull, rfl, rfl, rfl, rfl, rfl, rfl, rfl, rfl, rfl⟩

/-- Settles O9: Encipher is total on valued tables, and ENCRYPT's turn stores its result. -/
theorem encryptAcceptedThenEnciphers : Obligations.EncryptAcceptedThenEnciphers := by
  refine fun s hidle hready => ⟨acceptTransform_accepted .encrypt hidle hready, fun hfull => ?_⟩
  obtain ⟨lr, hlr⟩ := hfull.encipher_ok s.dl s.dr
  exact ⟨lr.1, lr.2, _, hlr, engineStep_encrypt rfl hlr, rfl, rfl, rfl, hready, rfl, rfl, rfl, rfl, rfl, rfl⟩

/-- Settles O10: Decipher is total on valued tables, and DECRYPT's turn stores its result. -/
theorem decryptAcceptedThenDeciphers : Obligations.DecryptAcceptedThenDeciphers := by
  refine fun s hidle hready => ⟨acceptTransform_accepted .decrypt hidle hready, fun hfull => ?_⟩
  obtain ⟨lr, hlr⟩ := hfull.decipher_ok s.dl s.dr
  exact ⟨lr.1, lr.2, _, hlr, engineStep_decrypt rfl hlr, rfl, rfl, rfl, hready, rfl, rfl, rfl, rfl, rfl, rfl⟩

/-! ### Errors (60_exceptions.md R201 to R205) -/

theorem legal_eq_false {a : Access} (h : ¬(a.bytes = 4 ∧ a.off.toNat % 4 = 0)) : a.legal = false := by
  simpa [Access.legal] using h

theorem step_illegal {s : State} {a : Access} {rest : List Event} (he : s.events = .host a :: rest)
    (h : ¬(a.bytes = 4 ∧ a.off.toNat % 4 = 0)) : step s = .fault .busError :=
  (step_cons he).trans (hostStep_illegal (legal_eq_false h))

/-- A legal write as a step. -/
theorem step_writeEffect {s : State} {off : Offset} {v : Word} {rest : List Event}
    (he : s.events = .host (.write off 4 v) :: rest) (halign : off.toNat % 4 = 0) :
    ∃ u, WriteEffect { s with events := rest } off v u ∧ step s = .next (u.respond .written) := by
  obtain ⟨u, hu⟩ := writeReg_next (regAt off) v { s with events := rest }
  exact ⟨u, writeEffect_writeReg halign hu, step_write he halign rfl hu⟩

/-- Settles O13: a legal write sets the flag of the error it causes or performs, and to perform sets no flag. -/
theorem errorSetsOneFlagAndNothingElse : Obligations.ErrorSetsOneFlagAndNothingElse := by
  refine fun s rest off v => ⟨fun n he hillegal => step_illegal he hillegal, fun he halign => ?_⟩
  obtain ⟨u, ⟨f, hcause, rfl⟩ | ⟨hnone, hp⟩, hstep⟩ := step_writeEffect he halign
  · have hcause' : errorCause s off v = some f := hcause
    refine ⟨fun f' hf' => ?_, fun hn => ?_⟩
    · cases hcause'.symm.trans hf'
      exact hstep
    · cases hcause'.symm.trans hn
  · have hnone' : errorCause s off v = none := hnone
    refine ⟨fun f hf => ?_, fun _ => ⟨_, hstep, fun f => hp.get_errs⟩⟩
    cases hnone'.symm.trans hf

/-- Settles O48: after Reset READY = 0, which is the cause of ERR_NOINIT. -/
theorem transformAfterResetSetsErrNoinit : Obligations.TransformAfterResetSetsErrNoinit := by
  intro s t w rest hw he h
  cases (step_reset he).symm.trans h
  obtain ⟨hcause, _⟩ := (errorSetsOneFlagAndNothingElse
    (State.resetStep { s with events := cmdWrite w :: rest }) rest 0x00 w).2 rfl rfl
  rcases hw with rfl | rfl <;> exact hcause .noinit rfl

/-! ### Only an illegal access is a bus error -/

/-- The computation does not end in the bus error. -/
def NoBusError {α : Type} (x : Except Fault α) : Prop := x ≠ .error .busError

theorem noBusError_ok {α : Type} (a : α) : NoBusError (.ok a) := nofun

theorem NoBusError.bind {α β : Type} {x : Except Fault α} {f : α → Except Fault β} (hx : NoBusError x)
    (hf : ∀ a, NoBusError (f a)) : NoBusError (x >>= f) := by
  cases x with
  | ok a => exact hf a
  | error e => exact fun h => hx (congrArg Except.error (Except.error.inj h))

theorem noBusError_readWord (o : Option Word) : NoBusError (readWord o) := by
  cases o <;> nofun

theorem noBusError_roundF (t : Tables) (x : Word) : NoBusError (roundF t x) :=
  (noBusError_readWord _).bind fun _ => (noBusError_readWord _).bind fun _ => (noBusError_readWord _).bind fun _ =>
    (noBusError_readWord _).bind fun _ => noBusError_ok _

theorem noBusError_feistelRounds (t : Tables) (is : List (Fin 18)) (lr : Word × Word) :
    NoBusError (feistelRounds t is lr) := by
  induction is generalizing lr with
  | nil => exact noBusError_ok lr
  | cons i is ih =>
    exact (noBusError_readWord _).bind fun _ =>
      ((noBusError_roundF t _).bind fun _ => noBusError_ok _).bind fun lr' => ih lr'

theorem noBusError_whiten (t : Tables) (ir il : Fin 18) (lr : Word × Word) : NoBusError (whiten t ir il lr) :=
  (noBusError_readWord _).bind fun _ => (noBusError_readWord _).bind fun _ => noBusError_ok _

theorem noBusError_encipher (t : Tables) (l r : Word) : NoBusError (encipher t l r) :=
  (noBusError_feistelRounds t _ _).bind fun _ => noBusError_whiten t _ _ _

theorem noBusError_decipher (t : Tables) (l r : Word) : NoBusError (decipher t l r) :=
  (noBusError_feistelRounds t _ _).bind fun _ => noBusError_whiten t _ _ _

theorem noBusError_keyByte (keys : Vector Word 14) (n : Nat) : NoBusError (keyByte keys n) := fun h => by
  cases (keyByte_error h).2

theorem noBusError_drawGroup (keys : Vector Word 14) (len k j : Nat) (d : Word) :
    NoBusError (drawGroup keys len k j d) := by
  induction k generalizing j d with
  | zero => exact noBusError_ok _
  | succ k ih => exact (noBusError_keyByte keys j).bind fun _ => ih _ _

theorem noBusError_keyXorFrom (keys : Vector Word 14) (len : Nat) (is : List (Fin 18)) (j : Nat) (t : Tables) :
    NoBusError (keyXorFrom keys len is j t) := by
  induction is generalizing j t with
  | nil => exact noBusError_ok t
  | cons i is ih =>
    exact (noBusError_drawGroup keys len 4 j 0).bind fun _ => (noBusError_readWord _).bind fun _ => ih _ _

theorem noBusError_expandSteps (k : Nat) (x : Expansion) : NoBusError (expandSteps k x) := by
  induction k generalizing x with
  | zero => exact noBusError_ok x
  | succ k ih => exact ((noBusError_encipher _ _ _).bind fun _ => noBusError_ok _).bind fun y => ih y

theorem noBusError_buildSchedule (keys : Vector Word 14) (len : Nat) (old : Tables) :
    NoBusError (buildSchedule keys len old) :=
  (noBusError_keyXorFrom keys len _ 0 _).bind fun _ => (noBusError_expandSteps 9 _).bind fun x =>
    (noBusError_expandSteps 512 x).bind fun _ => noBusError_ok _

theorem onNext_outcomeOf_ne_busError {x : Except Fault State} (h : NoBusError x) (f : State → State) :
    onNext (outcomeOf x) f ≠ .fault .busError := by
  cases x with
  | ok s => nofun
  | error e => exact fun he => h (congrArg Except.error (Host.Outcome.fault.inj he))

theorem engineStep_ne_busError (s : State) : engineStep s ≠ .fault .busError := by
  unfold engineStep
  cases s.pend with
  | none => nofun
  | init => exact onNext_outcomeOf_ne_busError ((noBusError_buildSchedule _ _ _).bind fun _ => noBusError_ok _) _
  | encrypt => exact onNext_outcomeOf_ne_busError ((noBusError_encipher _ _ _).bind fun _ => noBusError_ok _) _
  | decrypt => exact onNext_outcomeOf_ne_busError ((noBusError_decipher _ _ _).bind fun _ => noBusError_ok _) _

theorem step_eq_busError_iff (s : State) :
    step s = .fault .busError ↔
      ∃ a rest, s.events = .host a :: rest ∧ ¬(a.bytes = 4 ∧ a.off.toNat % 4 = 0) := by
  refine ⟨fun h => ?_, fun ⟨a, rest, he, hillegal⟩ => step_illegal he hillegal⟩
  cases he : s.events with
  | nil => exact absurd ((step_nil he).symm.trans h) (engineStep_ne_busError s)
  | cons e rest =>
    rw [step_cons he] at h
    cases e with
    | host a =>
      refine ⟨a, rest, rfl, fun ⟨hbytes, halign⟩ => ?_⟩
      obtain ⟨t, ht⟩ := hostStep_next_of_legal (legal_of_word hbytes halign) { s with events := rest }
      cases ht.symm.trans h
    | engine => exact absurd h (engineStep_ne_busError _)
    | reset => cases h
    | hostDuringReset a => cases h

/-! ### When a flag is set and when it is cleared -/

/-- A flag's code is its bit of STATUS (60_exceptions.md R202). -/
theorem status_getLsbD_bit (s : State) (f : ErrFlag) : s.status.getLsbD f.bit = s.errs.get f := by
  rw [State.status, statusWord_getLsbD]
  cases f <;> rfl

/-- Settles O14: the Engine and Reset set no flag, and a Host access only as the error it causes. -/
theorem flagIsSetExactlyByItsCause : Obligations.FlagIsSetExactlyByItsCause := by
  refine ⟨fun s t f h hs => ⟨fun ht => ?_, ?_⟩, status_getLsbD_bit, step_eq_busError_iff⟩
  · rcases step_movers h with ⟨_, hengine⟩ | ⟨rest, _, rfl⟩ | ⟨a, rest, u, x, he, hu, rfl⟩
    · obtain ⟨_, _, _, herrs, _⟩ := engineStepFrame _ _ hengine
      exact absurd ht (by simp [herrs, hs])
    · exact absurd ht (by simp [errFlags_get_clear])
    · obtain ⟨off, v, rfl, hcause⟩ := hu.flag_set hs ht
      exact ⟨off, v, rest, he, hcause⟩
  · rintro ⟨off, v, rest, he, hcause⟩
    obtain ⟨hillegal, hlegal⟩ := errorSetsOneFlagAndNothingElse s rest off v
    by_cases halign : off.toNat % 4 = 0
    · obtain ⟨hset, _⟩ := hlegal he halign
      cases (hset f hcause).symm.trans h
      exact (errFlags_get_set _ f f).mpr (.inl rfl)
    · cases (hillegal 4 he (by simp [halign])).symm.trans h

/-- Settles O15: the Engine clears no flag, and a Host access only as a write of 1 to its bit of STATUS. -/
theorem flagIsClearedOnlyByWriteOneOrReset : Obligations.FlagIsClearedOnlyByWriteOneOrReset := by
  intro s t f h hs ht
  rcases step_movers h with ⟨_, hengine⟩ | ⟨rest, he, _⟩ | ⟨a, rest, u, x, he, hu, rfl⟩
  · obtain ⟨_, _, _, herrs, _⟩ := engineStepFrame _ _ hengine
    exact absurd ht (by simp [herrs, hs])
  · exact .inr ⟨rest, he⟩
  · obtain ⟨v, rfl, hbit⟩ := hu.flag_cleared hs ht
    exact .inl ⟨v, rest, he, hbit⟩

end Sys2Proof.Proofs
end

section
/-! PROOFS. Who changes BUSY, READY, the tables and the operand registers (10_state.md sections 2 to 4). -/

namespace Sys2Proof.Proofs

open Sys2Proof.Machine Sys2Proof.Claims

/-! ### Accepted commands as steps -/

theorem step_acceptInit {s : State} {rest : List Event} (he : s.events = .host (.write 0x00 4 1) :: rest)
    (hidle : s.pend = .none) (hlen : keylenLegal s.keylen = true) :
    step s = .next (((State.clearReady { s with events := rest }).accept .init).respond .written) :=
  step_write he (by decide) (regAt_offset .cmd) ((presentCommand_encode .init _).trans (execInit_accepted hidle hlen))

theorem step_acceptTransform {s : State} {rest : List Event} {w : Word}
    (he : s.events = .host (.write 0x00 4 w) :: rest) (hw : w = 2 ∨ w = 3) (hidle : s.pend = .none)
    (hready : s.ready = true) :
    ∃ p, p ≠ .none ∧ step s = .next ((State.accept { s with events := rest } p).respond .written) := by
  rcases hw with rfl | rfl
  · exact ⟨.encrypt, by decide, step_write he (by decide) (regAt_offset .cmd)
      ((presentCommand_encode .encrypt _).trans (acceptTransform_accepted .encrypt hidle hready))⟩
  · exact ⟨.decrypt, by decide, step_write he (by decide) (regAt_offset .cmd)
      ((presentCommand_encode .decrypt _).trans (acceptTransform_accepted .decrypt hidle hready))⟩

/-! ### BUSY and READY -/

theorem status_busy_iff (s : State) : s.status.getLsbD 0 = true ↔ s.pend ≠ .none := by
  rw [State.status, statusWord_getLsbD, if_pos rfl, State.busy_eq_true]

/-- BUSY rises exactly where a command is accepted (10_state.md R28). -/
theorem step_pend_of_idle {s t : State} (h : step s = .next t) (hidle : s.pend = .none) :
    t.pend ≠ .none ↔ ∃ w rest, s.events = .host (.write 0x00 4 w) :: rest ∧
      ((w = 1 ∧ 1 ≤ s.keylen.toNat ∧ s.keylen.toNat ≤ 56) ∨ ((w = 2 ∨ w = 3) ∧ s.ready = true)) := by
  simp only [← keylenLegal_iff]
  refine ⟨fun ht => ?_, ?_⟩
  · rcases step_movers h with ⟨_, hengine⟩ | ⟨rest, _, rfl⟩ | ⟨a, rest, u, x, he, hu, rfl⟩
    · obtain ⟨hdone, _⟩ := engineStepFrame _ _ hengine
      exact absurd hdone ht
    · exact absurd rfl ht
    · rcases hu.pend_eq_or with hsame | ⟨_, w, rfl, haccepted⟩
      · exact absurd (hsame.trans hidle) ht
      · exact ⟨w, rest, he, haccepted⟩
  · rintro ⟨w, rest, he, ⟨rfl, hlen⟩ | ⟨hw, hready⟩⟩
    · cases (step_acceptInit he hidle hlen).symm.trans h
      exact Pend.noConfusion
    · obtain ⟨p, hp, hstep⟩ := step_acceptTransform he hw hidle hready
      cases hstep.symm.trans h
      exact hp

/-- BUSY falls exactly in the Engine's turn and at Reset (10_state.md R28). -/
theorem step_pend_of_busy {s t : State} (h : step s = .next t) (hp : s.pend ≠ .none) :
    t.pend = .none ↔ s.events = [] ∨ (∃ rest, s.events = .engine :: rest) ∨ ∃ rest, s.events = .reset :: rest := by
  rcases step_movers h with ⟨hnext, hengine⟩ | ⟨rest, he, rfl⟩ | ⟨a, rest, u, x, he, hu, rfl⟩
  · obtain ⟨hdone, _⟩ := engineStepFrame _ _ hengine
    exact iff_of_true hdone (or_assoc.mp (.inl hnext))
  · exact iff_of_true rfl (.inr (.inr ⟨rest, he⟩))
  · refine iff_of_false ?_ (by simp [he])
    rcases hu.pend_eq_or with hsame | ⟨hidle, _⟩
    · exact fun ht => hp (hsame.symm.trans ht)
    · exact absurd hidle hp

/-- Settles O43: the Host raises BUSY by an accepted command only, the Engine and Reset clear it. -/
theorem busyTransitions : Obligations.BusyTransitions :=
  ⟨status_busy_iff, fun _ _ => step_pend_of_idle, fun _ _ => step_pend_of_busy⟩

/-- The Engine's turn changes READY and the tables only where it completes an INIT, which leaves READY = 1. -/
theorem engineStep_init_or {s t : State} (h : engineStep s = .next t) :
    (s.pend = .init ∧ t.ready = true) ∨ (s.pend ≠ .init ∧ t.ready = s.ready ∧ t.tables = s.tables) := by
  by_cases hp : s.pend = .init
  · obtain ⟨hinit, _⟩ := result_of_engineStep h
    exact .inl ⟨hp, (hinit hp).2⟩
  · obtain ⟨_, _, _, _, _, _, hother, _⟩ := engineStepFrame _ _ h
    exact .inr ⟨hp, (hother hp).symm⟩

/-- READY falls exactly at Reset and where an INIT is accepted (10_state.md R29). -/
theorem step_ready_of_set {s t : State} (h : step s = .next t) (hs : s.ready = true) :
    t.ready = false ↔ (∃ rest, s.events = .reset :: rest) ∨
      (s.pend = .none ∧ 1 ≤ s.keylen.toNat ∧ s.keylen.toNat ≤ 56 ∧
        ∃ rest, s.events = .host (.write 0x00 4 1) :: rest) := by
  refine ⟨fun ht => ?_, ?_⟩
  · rcases step_movers h with ⟨_, hengine⟩ | ⟨rest, he, _⟩ | ⟨a, rest, u, x, he, hu, rfl⟩
    · rcases engineStep_init_or hengine with ⟨_, hset⟩ | ⟨_, hsame, _⟩
      · simp [hset] at ht
      · simp [hsame, hs] at ht
    · exact .inl ⟨rest, he⟩
    · rcases hu.ready_eq_or with hsame | ⟨hidle, hlen, rfl, _⟩
      · exact absurd (hsame.symm.trans ht) (by simp [hs])
      · obtain ⟨h1, h56⟩ := keylenLegal_iff.mp hlen
        exact .inr ⟨hidle, h1, h56, rest, he⟩
  · rintro (⟨rest, he⟩ | ⟨hidle, h1, h56, rest, he⟩)
    · cases (step_reset he).symm.trans h
      rfl
    · cases (step_acceptInit he hidle (keylenLegal_iff.mpr ⟨h1, h56⟩)).symm.trans h
      rfl

/-- READY rises exactly where the Engine completes an INIT (10_state.md R29). -/
theorem step_ready_of_clear {s t : State} (h : step s = .next t) (hs : s.ready = false) :
    t.ready = true ↔ s.pend = .init ∧ EngineMovesNext s := by
  rcases step_movers h with ⟨hnext, hengine⟩ | ⟨rest, he, rfl⟩ | ⟨a, rest, u, x, he, hu, rfl⟩
  · rcases engineStep_init_or hengine with ⟨hp, hset⟩ | ⟨hp, hsame, _⟩
    · exact iff_of_true hset ⟨hp, hnext⟩
    · exact iff_of_false (by simp [hsame, hs]) fun hinit => hp hinit.1
  · exact iff_of_false Bool.false_ne_true (by simp [he])
  · refine iff_of_false ?_ (by simp [he])
    rcases hu.ready_eq_or with hsame | ⟨_, _, _, hcleared⟩
    · simp [hsame, hs]
    · simp [hcleared]

/-- Settles O44: the Engine raises READY by INIT only; Reset and an accepted INIT clear it. -/
theorem readyTransitions : Obligations.ReadyTransitions :=
  fun _ _ h => ⟨step_ready_of_set h, step_ready_of_clear h⟩

/-- Settles O45: the Host changes no table, and the Engine only by INIT. -/
theorem tablesChangeOnlyByInitOrReset : Obligations.TablesChangeOnlyByInitOrReset := by
  intro s t h hchange
  rcases step_movers h with ⟨hnext, hengine⟩ | ⟨rest, he, _⟩ | ⟨a, rest, u, x, _, hu, rfl⟩
  · rcases engineStep_init_or hengine with ⟨hp, _⟩ | ⟨_, _, hsame⟩
    · exact .inl ⟨hp, hnext⟩
    · exact absurd hsame hchange
  · exact .inr ⟨rest, he⟩
  · exact absurd hu.tables_eq hchange

/-! ### The operand registers -/

/-- The Engine's turn writes no key and writes the block only as ENCRYPT or DECRYPT. -/
theorem engineStep_block_or {s t : State} (h : engineStep s = .next t) :
    (s.pend = .encrypt ∨ s.pend = .decrypt) ∨ (t.dl = s.dl ∧ t.dr = s.dr) := by
  obtain ⟨_, _, _, _, _, _, _, hother, _⟩ := engineStepFrame _ _ h
  by_cases hp : s.pend = .encrypt ∨ s.pend = .decrypt
  · exact .inl hp
  · rw [not_or] at hp
    exact .inr (hother hp.1 hp.2)

/-- Settles O26: each register has one writing access of the Host, and the Engine writes the block only. -/
theorem operandRegisterWriters : Obligations.OperandRegisterWriters := by
  intro s t h hreset
  rcases step_movers h with ⟨hnext, hengine⟩ | ⟨rest, he, _⟩ | ⟨a, rest, u, x, he, hu, rfl⟩
  · obtain ⟨_, hkeylen, hkeys, _⟩ := engineStepFrame _ _ hengine
    have hblock := engineStep_block_or hengine
    refine ⟨fun hne => absurd hkeylen hne, fun j hne => absurd (by rw [hkeys]) hne, fun hne => ?_, fun hne => ?_⟩
    · exact .inr ⟨hblock.resolve_right fun hsame => hne hsame.1, hnext⟩
    · exact .inr ⟨hblock.resolve_right fun hsame => hne hsame.2, hnext⟩
  · exact absurd he (hreset rest)
  · refine ⟨fun hne => ?_, fun j hne => ?_, fun hne => ?_, fun hne => ?_⟩
    · obtain ⟨hidle, v, rfl⟩ := hu.keylen_eq_or.resolve_left hne
      exact ⟨hidle, v, rest, he⟩
    · obtain ⟨hidle, v, rfl⟩ := (hu.key_eq_or j).resolve_left hne
      exact ⟨hidle, v, rest, he⟩
    · obtain ⟨hidle, v, rfl⟩ := hu.dl_eq_or.resolve_left hne
      exact .inl ⟨hidle, v, rest, he⟩
    · obtain ⟨hidle, v, rfl⟩ := hu.dr_eq_or.resolve_left hne
      exact .inl ⟨hidle, v, rest, he⟩

end Sys2Proof.Proofs
end

section
/-! PROOFS. The window, its reads, and what the Host cannot see (20_memory.md; 60_exceptions.md section 5; 10_state.md
R37). -/

namespace Sys2Proof.Proofs

open Sys2Proof.Machine Sys2Proof.Claims

/-! ### The window and its registers (20_memory.md R50, R54) -/

theorem regAt_eq_some_iff {off : Offset} {r : Reg} : regAt off = some r ↔ off = r.offset := by
  refine ⟨fun h => (offset_of_regAt r h).symm, ?_⟩
  rintro rfl
  exact regAt_offset r

theorem key_offset_toNat (j : Fin 14) : (Reg.offset (.key j)).toNat = 0x20 + 4 * j.val :=
  Nat.mod_eq_of_lt (by omega)

/-- Settles O16: the map is the offsets' inverse. -/
theorem registerMapOffsets : Obligations.RegisterMapOffsets :=
  ⟨rfl, rfl, rfl, rfl, rfl, key_offset_toNat, fun _ _ => regAt_eq_some_iff⟩

theorem windowOffset_eq_some_iff {base addr : Nat} {off : Offset} :
    windowOffset base addr = some off ↔ addr = base + off.toNat := by
  have hoff := off.isLt
  unfold windowOffset
  split_ifs with hin
  · rw [Option.some.injEq, ← BitVec.toNat_inj, BitVec.toNat_ofNat]
    omega
  · refine iff_of_false nofun ?_
    omega

/-- Settles O17: the offset is the distance from the base, and the base has no low bits. -/
theorem windowIs128BytesAtBase : Obligations.WindowIs128BytesAtBase := by
  refine fun base addr off hbase => ⟨windowOffset_eq_some_iff, fun h => ?_⟩
  have hoff := off.isLt
  have haddr := windowOffset_eq_some_iff.mp h
  omega

/-! ### Which accesses are answered (20_memory.md R53) -/

/-- Settles O18: a legal access is answered in every state, with a response, and any other gets the bus error. -/
theorem exactlyLegalAccessesAreAnswered : Obligations.ExactlyLegalAccessesAreAnswered := by
  refine fun s a rest he => ⟨fun ⟨hbytes, halign⟩ => ?_, step_illegal he⟩
  obtain ⟨t, ht⟩ := hostStep_next_of_legal (legal_of_word hbytes halign) { s with events := rest }
  obtain ⟨u, x, hu, rfl⟩ := hostEffect_of_hostStep ht
  exact ⟨_, x, (step_cons he).trans ht, hu.events_eq, rfl⟩

/-! ### Reads (20_memory.md R62, R66) -/

theorem readBlockHalf_idle (v : Word) {s : State} (hp : s.pend = .none) : readBlockHalf v s = (v, s) := by
  simp [readBlockHalf, State.busy_eq_false.mpr hp]

theorem readBlockHalf_busy (v : Word) {s : State} (hp : s.pend ≠ .none) : readBlockHalf v s = s.drawWord := by
  simp [readBlockHalf, State.busy_eq_true.mpr hp]

theorem regAt_of_block {off : Offset} (hoff : off = 0x10 ∨ off = 0x14) :
    off.toNat % 4 = 0 ∧ regAt off = some (if off = 0x10 then .dl else .dr) := by
  rcases hoff with rfl | rfl <;> decide

theorem readReg_block (off : Offset) (s : State) :
    readReg (some (if off = 0x10 then .dl else .dr)) s = readBlockHalf (if off = 0x10 then s.dl else s.dr) s := by
  split_ifs <;> rfl

/-- A word read answers what the register gives, whatever state reading it leaves. -/
theorem step_readReg {s t : State} {rest : List Event} {off : Offset} {r : Option Reg} {v : Word}
    (he : s.events = .host (.read off 4) :: rest) (halign : off.toNat % 4 = 0) (hr : regAt off = r)
    (hv : readReg r { s with events := rest } = (v, t)) : step s = .next (t.respond (.data v)) :=
  calc step s = hostStep (.read off 4) { s with events := rest } := step_cons he
    _ = .next (t.respond (.data v)) := by rw [hostStep_read (legal_of_word rfl halign), hr, hv]

/-- Settles O22: one rule reads both halves, from the register while idle and from the free values while busy. -/
theorem blockReadsAreFreeWhileBusy : Obligations.BlockReadsAreFreeWhileBusy := by
  intro s rest off he hoff
  obtain ⟨halign, hr⟩ := regAt_of_block hoff
  exact ⟨fun hp => step_readReg he halign hr ((readReg_block off _).trans (readBlockHalf_idle _ hp)),
    fun hp => step_readReg he halign hr ((readReg_block off _).trans (readBlockHalf_busy _ hp))⟩

theorem readBlockHalf_update (v : Word) {s : State} {up : State → State} (hpend : (up s).pend = s.pend)
    (hdraw : (up s).drawWord = (s.drawWord.1, up s.drawWord.2)) :
    readBlockHalf v (up s) = ((readBlockHalf v s).1, up (readBlockHalf v s).2) := by
  by_cases hp : s.pend = .none
  · rw [readBlockHalf_idle v hp, readBlockHalf_idle v (hpend.trans hp)]
  · rw [readBlockHalf_busy v hp, readBlockHalf_busy v (hpend ▸ hp), hdraw]

/-- A change of state that leaves what the registers show does not enter a read. -/
theorem readReg_update (r : Option Reg) {s : State} {up : State → State} (hdl : (up s).dl = s.dl)
    (hdr : (up s).dr = s.dr) (hkeylen : (up s).keylen = s.keylen) (hstatus : (up s).status = s.status)
    (hpend : (up s).pend = s.pend) (hdraw : (up s).drawWord = (s.drawWord.1, up s.drawWord.2)) :
    readReg r (up s) = ((readReg r s).1, up (readReg r s).2) := by
  rcases r with _ | (_ | _ | _ | _ | _ | j)
  case some.dl => simp only [readReg, hdl, readBlockHalf_update s.dl hpend hdraw]
  case some.dr => simp only [readReg, hdr, readBlockHalf_update s.dr hpend hdraw]
  all_goals simp only [readReg, hkeylen, hstatus]

/-- `s` with other moves to come and another response. -/
def withResponse (s : State) (es : List Event) (x : Option Response) : State := { s with events := es, resp := x }

/-- The same read once more, after one that changed nothing but the response, answers the same. -/
theorem step_read_again {s : State} {rest : List Event} {off : Offset}
    (he : s.events = .host (.read off 4) :: rest) (halign : off.toNat % 4 = 0)
    (hsame : (readReg (regAt off) s).2 = s) :
    step (s.respond (.data (readReg (regAt off) s).1)) =
      .next { s.respond (.data (readReg (regAt off) s).1) with events := rest } := by
  have hv := readReg_update (regAt off) (s := s)
    (up := (withResponse · rest (some (.data (readReg (regAt off) s).1)))) rfl rfl rfl rfl rfl rfl
  rw [hsame] at hv
  exact step_readReg (s := s.respond _) he halign rfl hv

/-- Settles O25: a read changes no state of KSFC, so the second read finds what the first one found; only DL and DR while
busy are drawn anew. -/
theorem readsAreIdempotent : Obligations.ReadsAreIdempotent := by
  intro s rest off n t he h
  rw [step_cons he] at h
  rcases hostStep_cases h with ⟨_, ha, halign, rfl⟩ | ⟨_, _, _, ha, _⟩
  case inr => cases ha
  obtain ⟨rfl, rfl⟩ := Access.read.inj ha
  rcases readReg_state (regAt off) { s with events := .host (.read off 4) :: rest } with hsame | ⟨hbusy, hr, hdraw⟩
  · have hagain := step_read_again rfl halign hsame
    rw [hsame]
    exact ⟨rfl, fun _ => ⟨_, hagain, rfl⟩⟩
  · refine ⟨by rw [hdraw]; rfl, fun hquiet => absurd ⟨?_, State.busy_eq_true.mp hbusy⟩ hquiet⟩
    exact hr.imp regAt_eq_some_iff.mp regAt_eq_some_iff.mp

/-! ### What the Host cannot see (60_exceptions.md section 5; 10_state.md R37) -/

/-- `s` with other key registers, tables and working registers. -/
def withSecrets (s : State) (keys : Vector Word 14) (tables : Tables) (work : EngineRegs) : State :=
  { s with keys := keys, tables := tables, work := work }

section
variable (s : State) (keys : Vector Word 14) (tables : Tables) (work : EngineRegs)

theorem readReg_withSecrets (r : Option Reg) :
    readReg r (withSecrets s keys tables work) =
      ((readReg r s).1, withSecrets (readReg r s).2 keys tables work) :=
  readReg_update r (up := (withSecrets · keys tables work)) rfl rfl rfl rfl rfl rfl

theorem acceptTransform_withSecrets (p : Pend) :
    acceptTransform p (withSecrets s keys tables work) =
      onNext (acceptTransform p s) (withSecrets · keys tables work) := by
  rw [acceptTransform_eq_ite, acceptTransform_eq_ite, apply_ite (onNext · _), apply_ite (onNext · _)]
  rfl

theorem execInit_withSecrets :
    execInit (withSecrets s keys tables work) = onNext (execInit s) (withSecrets · keys tables work) := by
  rw [execInit_eq_ite, execInit_eq_ite, apply_ite (onNext · _), apply_ite (onNext · _)]
  rfl

theorem presentCommand_withSecrets (w : Word) :
    presentCommand w (withSecrets s keys tables work) =
      onNext (presentCommand w s) (withSecrets · keys tables work) := by
  by_cases hres : rsvdField w ≠ 0 ∨ 4 ≤ (opField w).toNat
  · rw [presentCommand_reserved hres, presentCommand_reserved hres]
    rfl
  · obtain ⟨i, rfl⟩ := exists_eq_encode_of_not_reserved hres
    rw [presentCommand_encode, presentCommand_encode]
    cases i with
    | nop => rfl
    | init => exact execInit_withSecrets s keys tables work
    | encrypt => exact acceptTransform_withSecrets s keys tables work .encrypt
    | decrypt => exact acceptTransform_withSecrets s keys tables work .decrypt

theorem writeOperand_withSecrets {write : State → State} {keys' : Vector Word 14}
    (hwrite : write (withSecrets s keys tables work) = withSecrets (write s) keys' tables work) :
    writeOperand write (withSecrets s keys tables work) =
      withSecrets (writeOperand write s) (if s.pend = .none then keys' else keys) tables work := by
  by_cases hp : s.pend = .none
  · rw [writeOperand_idle _ hp, writeOperand_idle _ (s := withSecrets s keys tables work) hp, hwrite, if_pos hp]
  · rw [writeOperand_busy _ hp, writeOperand_busy _ (s := withSecrets s keys tables work) hp, if_neg hp]
    rfl

end

/-- A register write goes on the same with other secrets; the key registers after it depend on those before it. -/
theorem writeReg_withSecrets (r : Option Reg) (v : Word) (s : State) (keys : Vector Word 14) :
    ∃ keys', ∀ tables work, writeReg r v (withSecrets s keys tables work) =
      onNext (writeReg r v s) (withSecrets · keys' tables work) := by
  rcases r with _ | (_ | _ | _ | _ | _ | j)
  case some.cmd => exact ⟨keys, fun tables work => presentCommand_withSecrets s keys tables work v⟩
  case none => exact ⟨keys, fun _ _ => rfl⟩
  case some.status => exact ⟨keys, fun _ _ => rfl⟩
  case some.key =>
    exact ⟨_, fun tables work =>
      congrArg _ (writeOperand_withSecrets (keys' := keys.set j v) s keys tables work rfl)⟩
  all_goals exact ⟨_, fun tables work => congrArg _ (writeOperand_withSecrets s keys tables work rfl)⟩

/-- So does every Host access. -/
theorem hostStep_withSecrets (a : Access) (s : State) (keys : Vector Word 14) :
    ∃ keys', ∀ tables work, hostStep a (withSecrets s keys tables work) =
      onNext (hostStep a s) (withSecrets · keys' tables work) := by
  cases hlegal : a.legal with
  | false => exact ⟨keys, fun _ _ => by rw [hostStep_illegal hlegal, hostStep_illegal hlegal]; rfl⟩
  | true =>
    cases a with
    | read off n =>
      refine ⟨keys, fun tables work => ?_⟩
      rw [hostStep_read hlegal, hostStep_read hlegal, readReg_withSecrets]
      rfl
    | write off n v =>
      obtain ⟨keys', hkeys⟩ := writeReg_withSecrets (regAt off) v s keys
      obtain ⟨t, ht⟩ := writeReg_next (regAt off) v s
      refine ⟨keys', fun tables work => ?_⟩
      rw [hostStep_write hlegal, hostStep_write hlegal, hkeys, ht]
      rfl

theorem sameButSecrets_withSecrets (s : State) (keys : Vector Word 14) (tables : Tables) (work : EngineRegs) :
    SameButSecrets s (withSecrets s keys tables work) := rfl

/-- Settles O27: the second run is the first with other secrets. -/
theorem hostCannotReadKeyOrTables : Obligations.HostCannotReadKeyOrTables := by
  intro s t a rest hst he
  have ht : t = withSecrets s t.keys t.tables t.work := hst
  have het : t.events = .host a :: rest := (congrArg State.events ht).trans he
  obtain ⟨keys', hkeys⟩ := hostStep_withSecrets a { s with events := rest } t.keys
  have hstep : step t = onNext (step s) (withSecrets · keys' t.tables t.work) := by
    rw [step_cons het, step_cons he]
    refine Eq.trans (congrArg (hostStep a) ?_) (hkeys t.tables t.work)
    rw [ht]
    rfl
  by_cases hlegal : a.bytes = 4 ∧ a.off.toNat % 4 = 0
  · obtain ⟨u, hu⟩ := hostStep_next_of_legal (legal_of_word hlegal.1 hlegal.2) { s with events := rest }
    have hs : step s = .next u := (step_cons he).trans hu
    exact .inl ⟨u, _, hs, hstep.trans (congrArg (onNext · _) hs), sameButSecrets_withSecrets _ _ _ _⟩
  · exact .inr ⟨step_illegal he hlegal, step_illegal het hlegal⟩

/-! ### The working registers -/

/-- `s` with other working registers. -/
def withWork (s : State) (work : EngineRegs) : State := { s with work := work }

/-- An outcome with the working registers it has. -/
theorem exists_onNext_withWork (o : Host.Outcome State Fault Refusal) : ∃ w, o = onNext o (withWork · w) := by
  cases o with
  | next t => exact ⟨t.work, rfl⟩
  | fault f => exact ⟨State.reset.work, rfl⟩
  | refused r => exact ⟨State.reset.work, rfl⟩

/-- What the completion overwrites does not show in the outcome of an operation. -/
theorem onNext_complete_congr {α : Type} (x : Except Fault α) {f g : α → State}
    (h : ∀ a, (f a).complete = (g a).complete) :
    onNext (outcomeOf (x >>= fun a => .ok (f a))) State.complete =
      onNext (outcomeOf (x >>= fun a => .ok (g a))) State.complete := by
  cases x with
  | ok a => exact congrArg Host.Outcome.next (h a)
  | error e => rfl

/-- An operation does not read the working registers, and its completion overwrites them. -/
theorem engineStep_withWork_of_busy {s : State} (w : EngineRegs) (hp : s.pend ≠ .none) :
    engineStep (withWork s w) = engineStep s := by
  have hpend : (withWork s w).pend = s.pend := rfl
  unfold engineStep
  rw [hpend]
  cases hs : s.pend with
  | none => exact absurd hs hp
  | init => exact onNext_complete_congr (buildSchedule s.keys s.keylen.toNat s.tables) fun _ => rfl
  | encrypt => exact onNext_complete_congr (encipher s.tables s.dl s.dr) fun _ => rfl
  | decrypt => exact onNext_complete_congr (decipher s.tables s.dl s.dr) fun _ => rfl

theorem engineStep_withWork (s : State) (w : EngineRegs) :
    ∃ w', engineStep (withWork s w) = onNext (engineStep s) (withWork · w') := by
  by_cases hp : s.pend = .none
  · refine ⟨w, ?_⟩
    have hpend : (withWork s w).pend = .none := hp
    simp only [engineStep, hp, hpend, onNext]
  · rw [engineStep_withWork_of_busy w hp]
    exact exists_onNext_withWork _

/-- The working registers are one of the secrets that no Host access sees. -/
theorem hostStep_withWork (a : Access) (s : State) (w : EngineRegs) :
    hostStep a (withWork s w) = onNext (hostStep a s) (withWork · w) := by
  obtain ⟨keys, hkeys⟩ := hostStep_withSecrets a s s.keys
  have hsame : hostStep a s = onNext (hostStep a s) (withSecrets · keys s.tables s.work) := hkeys s.tables s.work
  refine (hkeys s.tables w).trans ?_
  cases hs : hostStep a s with
  | next t =>
    rw [hs] at hsame
    have ht : t = withSecrets t keys s.tables s.work := Host.Outcome.next.inj hsame
    exact (congrArg (fun u => Host.Outcome.next (withWork u w)) ht).symm
  | fault f => rfl
  | refused r => rfl

theorem step_withWork (s : State) (w : EngineRegs) :
    ∃ w', step (withWork s w) = onNext (step s) (withWork · w') := by
  cases he : s.events with
  | nil =>
    rw [step_nil he, step_nil (s := withWork s w) he]
    exact engineStep_withWork s w
  | cons e rest =>
    rw [step_cons he, step_cons (s := withWork s w) he]
    cases e with
    | host a => exact ⟨w, hostStep_withWork a { s with events := rest } w⟩
    | engine => exact engineStep_withWork { s with events := rest } w
    | reset => exact ⟨State.reset.work, rfl⟩
    | hostDuringReset a => exact ⟨w, rfl⟩

/-- Settles O46: the step with other working registers is the step itself, up to the working registers it leaves. -/
theorem workingRegistersAreUnobservable : Obligations.WorkingRegistersAreUnobservable := by
  intro s w
  obtain ⟨w', h⟩ := step_withWork s w
  exact ⟨fun t ht => ⟨w', h.trans (congrArg (onNext · _) ht)⟩, fun f hf => h.trans (congrArg (onNext · _) hf),
    fun r hr => h.trans (congrArg (onNext · _) hr)⟩

end Sys2Proof.Proofs
end

section
/-! PROOFS. The words that one encryption of the expansion writes (41_keyschedule.md R130, R136). -/

namespace Sys2Proof.Proofs

open Sys2Proof.Machine Sys2Proof.Claims

/-! ### Reading the tables by word number -/

theorem tableWord_p (t : Tables) {n : Nat} (hp : n < 18) : tableWord t n = t.p[n] := by
  rw [tableWord, dif_pos hp]

theorem tableWord_s (t : Tables) {n : Nat} (hp : ¬n < 18) (hs : n < 1042) :
    tableWord t n = (t.s[(n - 18) / 256]'(by omega))[(n - 18) % 256]'(Nat.mod_lt _ (by omega)) := by
  rw [tableWord, dif_neg hp, dif_pos hs]

theorem writeWord_p (t : Tables) {n : Nat} (hp : n < 18) (v : Word) : t.writeWord n v = t.writeP ⟨n, hp⟩ v := by
  rw [Tables.writeWord, dif_pos hp]

theorem writeWord_s (t : Tables) {n : Nat} (hp : ¬n < 18) (hs : n < 1042) (v : Word) :
    t.writeWord n v =
      t.writeS ⟨(n - 18) / 256, by omega⟩ ⟨(n - 18) % 256, Nat.mod_lt _ (by omega)⟩ v := by
  rw [Tables.writeWord, dif_neg hp, dif_pos hs]

theorem tableWord_writeWord_same (t : Tables) {n : Nat} (hn : n < 1042) (v : Word) :
    tableWord (t.writeWord n v) n = some v := by
  by_cases hp : n < 18
  · rw [writeWord_p t hp, tableWord_p _ hp]
    simp [Tables.writeP]
  · rw [writeWord_s t hp hn, tableWord_s _ hp hn]
    simp [Tables.writeS]

/-- Two S words of different numbers are in different boxes or at different places of one box. -/
theorem tableWord_writeWord_other (t : Tables) {m n : Nat} (hm : m < 1042) (hne : n ≠ m) (v : Word) :
    tableWord (t.writeWord m v) n = tableWord t n := by
  by_cases hmp : m < 18
  · rw [writeWord_p t hmp]
    by_cases hnp : n < 18
    · rw [tableWord_p _ hnp, tableWord_p _ hnp]
      exact Vector.getElem_set_ne hmp hnp hne.symm
    · simp only [tableWord, dif_neg hnp]
      rfl
  · rw [writeWord_s t hmp hm]
    by_cases hnp : n < 18
    · rw [tableWord_p _ hnp, tableWord_p _ hnp]
      rfl
    · by_cases hns : n < 1042
      · rw [tableWord_s _ hnp hns, tableWord_s _ hnp hns]
        by_cases hbox : (m - 18) / 256 = (n - 18) / 256
        · have hplace : (m - 18) % 256 ≠ (n - 18) % 256 := by omega
          simp [Tables.writeS, hbox, hplace]
        · simp [Tables.writeS, hbox]
      · simp only [tableWord, dif_neg hnp, dif_neg hns]

/-! ### One encryption and all of them -/

theorem expandStep_eq_ok {x y : Expansion} :
    expandStep x = .ok y ↔
      encipher x.tables x.al x.ar = .ok (y.al, y.ar) ∧ y.index = x.index + 2 ∧
      y.tables = (x.tables.writeWord x.index y.al).writeWord (x.index + 1) y.ar := by
  rw [expandStep, bind_eq_ok]
  constructor
  · rintro ⟨lr, hlr, hy⟩
    cases hy
    exact ⟨hlr, rfl, rfl⟩
  · rintro ⟨hlr, hindex, htables⟩
    refine ⟨_, hlr, ?_⟩
    rw [← htables, ← hindex]

theorem expandSteps_index {k : Nat} {x y : Expansion} (h : expandSteps k x = .ok y) : y.index = x.index + 2 * k := by
  induction k generalizing x with
  | zero =>
    cases h
    rfl
  | succ k ih =>
    obtain ⟨z, hz, hrest⟩ := bind_eq_ok.mp h
    obtain ⟨_, hindex, _⟩ := expandStep_eq_ok.mp hz
    rw [ih hrest, hindex]
    omega

/-- The whole expansion is 521 encryptions from word 0 on, 9 for P and 512 for S (R128, R129). -/
theorem ksExpand_eq_expandSteps (t : Tables) :
    ksExpand t = (do
      let y ← expandSteps 521 { tables := t, al := 0, ar := 0, index := 0 }
      .ok y.tables) := by
  rw [ksExpand, show 521 = 9 + 512 from rfl, expandSteps_add, bind_assoc]

/-- Settles O37: an encryption writes its two words one after the other, and 521 of them end at word 1042. -/
theorem expansionWritesNextTwoWords : Obligations.ExpansionWritesNextTwoWords := by
  refine ⟨fun x y h hlast => ?_, fun t tab => ?_⟩
  · obtain ⟨hlr, hindex, htables⟩ := expandStep_eq_ok.mp h
    refine ⟨hlr, hindex, ?_, ?_, fun n hleft hright => ?_⟩ <;> rw [htables]
    · rw [tableWord_writeWord_other _ hlast (by omega), tableWord_writeWord_same _ (by omega)]
    · exact tableWord_writeWord_same _ hlast _
    · rw [tableWord_writeWord_other _ hlast hright, tableWord_writeWord_other _ (by omega) hleft]
  · rw [ksExpand_eq_expandSteps, bind_eq_ok]
    constructor
    · rintro ⟨y, hy, htab⟩
      exact ⟨y, hy, expandSteps_index hy, Except.ok.inj htab⟩
    · rintro ⟨y, hy, _, rfl⟩
      exact ⟨y, hy, rfl⟩

end Sys2Proof.Proofs
end
